-- ==== Sys2Proof/Word.lean ====
section
/-! DEFINITION. The two data widths of the ANC16: the byte and the word (spec/00_scope.md R5, R9). -/

namespace Sys2Proof

/-- A cell of memory, a half register, J, an SR byte: 8 bits. -/
abbrev Byte := BitVec 8

/-- A register, an address, an opcode: 16 bits. -/
abbrev Word := BitVec 16

end Sys2Proof
end

