-- ==== Sys2Proof/Config.lean ====
section
/-! DEFINITION. What an implementation of the ANC16 fixes (spec/00_scope.md R5): the parameters that have a
default, held in the state as plain data so that every statement ranges over all their settings, the constants of
the standard variant, and the one free value. -/

namespace Sys2Proof

/-- `SUB_CARRY_POLARITY` (R5, R101): what C says after `SUA` and `SUB`. -/
inductive SubCarryPolarity where
  /-- C = 1 when the register is below the operand (the default). -/
  | borrow
  /-- C = 1 when the register is not below the operand. -/
  | noBorrow
  deriving DecidableEq, Repr

/-- `ROM_WRITE` (R5; spec/93_implementation_defined.md U9): the effect of a store to 0xFE00-0xFFFF. -/
inductive RomWrite where
  /-- The store changes nothing (the default, R43). -/
  | ignore
  /-- The model stops with `Fault.romWrite`. -/
  | fault
  deriving DecidableEq, Repr

/-- `IRQ_PRIORITY` (R5, R314): which of DR-INR and EIRQ wins at one boundary; RESET and an external NMI come before
both in either order. -/
inductive IrqPriority where
  /-- DR-INR before EIRQ (the default). -/
  | drInrFirst
  /-- EIRQ before DR-INR. -/
  | eirqFirst
  deriving DecidableEq, Repr

/-- The named parameters of R5 that have a default. No step changes them. -/
structure Config where
  /-- `SUB_CARRY_POLARITY`, log 5. -/
  subCarryPolarity : SubCarryPolarity
  /-- `SYNC_SAVED_PC_OFFSET`, log 6. -/
  syncSavedPcOffset : Word
  /-- `ROM_WRITE`, log 7. -/
  romWrite : RomWrite
  /-- `HAS_EXTERNAL_NMI`, log 8. -/
  hasExternalNmi : Bool
  /-- `IRQ_PRIORITY`, log 9. -/
  irqPriority : IrqPriority
  /-- `DR_TICKS(instr)` (R5, R305), as an opcode with its decrements beyond the first: the number is always positive,
  log 12. -/
  extraTicks : List (Word × Nat)
  /-- The decrements beyond the first of every opcode that `extraTicks` does not list. -/
  extraTicksElse : Nat
  deriving DecidableEq, Repr

/-- Every parameter at the default of R5. -/
def Config.standard : Config where
  subCarryPolarity := .borrow
  syncSavedPcOffset := 0
  romWrite := .ignore
  hasExternalNmi := false
  irqPriority := .drInrFirst
  extraTicks := []
  extraTicksElse := 0

/-- The ISA version that `CPUID` returns in AL (R1, R250). -/
def Config.isaVersion : Byte := 0x01

/-- The variant code that `CPUID` returns in AH: the standard variant (R1, R2). -/
def Config.variant : Byte := 0x00

/-- What a cell that is not listed in memory reads as. The spec gives no contents for RAM (`RAM_INIT`) nor for the ROM
(`ROM_IMAGE`). DESIGN CHOICE, unsafe, log 4. -/
def Config.unlistedByte : Byte := 0x00

/-- FREE VALUE: the answer of the environment to the `n`-th IO access, a read of external address `a`, when no scripted
answer is left (R65: two reads of one address need not agree). It has no body; nothing can be proved of its value,
log 10. -/
opaque Config.ioAnswer : (n : Nat) → (a : Word) → Byte

end Sys2Proof
end

