-- ==== Sys2Proof/Machine/State.lean ====
section
/-! DEFINITION. The state of the ANC16 (spec/10_state.md; spec/20_memory.md R40, R41), the reasons a step can stop, and
the state after reset. State is plain data; the operations over it are in Ops.lean and the files after it. -/

namespace Sys2Proof.Machine

/-- The flags of SR (R17). Bit 2 is not stored: it is hard-wired to 1 where SR is read and ignored where it is loaded
(R23). -/
structure Status where
  /-- N, bit 7: negative (R18). -/
  n : Bool
  /-- O, bit 6: overflow (R19). -/
  o : Bool
  /-- I_, bit 5: EIRQs are enabled (R20). -/
  i : Bool
  /-- D, bit 4: DR-INR is enabled (R21). -/
  d : Bool
  /-- S, bit 3: system privileges; true is system mode, false user mode (R22). -/
  s : Bool
  /-- Z, bit 1: zero (R24). -/
  z : Bool
  /-- C, bit 0: carry (R25). -/
  c : Bool
  deriving DecidableEq, Repr

/-- The run state (R30). -/
inductive RunState where
  | running
  | stopped
  deriving DecidableEq, Repr

/-- An access to the external / IO space (R65). -/
inductive IoEvent where
  /-- `IORead(a)` answered `v`. -/
  | read (a : Word) (v : Byte)
  /-- `IOWrite(a, v)`. -/
  | write (a : Word) (v : Byte)
  deriving DecidableEq, Repr

/-- What the environment presents at one instruction boundary (R300, R303, R328). -/
structure BoundaryInput where
  /-- RESET is asserted. -/
  reset : Bool
  /-- An external NMI, which the machine takes only when `HAS_EXTERNAL_NMI` holds; the byte is what AL holds after entry,
  which the spec does not state (log 8). -/
  nmi : Option Byte
  /-- An EIRQ with the device's address and datum. -/
  eirq : Option (Word × Byte)
  deriving DecidableEq, Repr

/-- Internal memory: the cells that differ from the unlisted byte, addresses strictly rising (R40; log 4). -/
abbrev Memory := List Host.Cell

/-- The whole state of the machine. -/
structure State where
  /-- A, the accumulator (R10). -/
  a : Word
  /-- B, the base register (R11). -/
  b : Word
  /-- I, the index register (R12). -/
  i : Word
  /-- J, the "Jump To" register (R13). -/
  j : Byte
  /-- SP, the stack pointer (R16). -/
  sp : Word
  /-- PC, the program counter (R14). -/
  pc : Word
  /-- SR, the status register (R17). -/
  sr : Status
  /-- DR, the decremental register (R26). -/
  dr : Word
  /-- The hit of DR-INR's condition at a decrement before the last of an instruction that counts several, remembered until
  the next boundary (R305). With one decrement an instruction it is always false: no pending state (R31). -/
  drHit : Bool
  /-- IMLI, lower bound of internal memory in user mode (R27). -/
  imli : Word
  /-- IMHI, upper bound of internal memory in user mode (R27). -/
  imhi : Word
  /-- EMLI, lower bound of the external space in user mode (R28). -/
  emli : Word
  /-- EMHI, upper bound of the external space in user mode (R28). -/
  emhi : Word
  /-- AR, the address register (R29). -/
  ar : Word
  /-- IR, the instruction register (R15). -/
  ir : Word
  /-- The run state (R30). -/
  run : RunState
  /-- Internal memory, ROM included (R40). -/
  mem : Memory
  /-- The model's own: the answers the environment will give to the coming reads (R65; log 10). -/
  ioAnswers : List Byte
  /-- The model's own: the IO events so far, in program order (R65; log 10). -/
  ioTrace : List IoEvent
  /-- The model's own: what the environment presents at the coming boundaries, one entry a step (R328; log 11). -/
  inputs : List BoundaryInput
  /-- The model's own: the numbers of decrements beyond the first that are drawn for the coming executed instructions, one
  entry each (R305; log 12). -/
  drDraws : List Nat
  /-- The model's own: the parameters of R5 (logs 5 to 9 and 12). -/
  cfg : Config
  deriving DecidableEq, Repr

/-- The reasons for which the model stops. -/
inductive Fault where
  /-- A store or a push that touches 0xFE00-0xFFFF while the parameter `ROM_WRITE` is `fault`
  (spec/93_implementation_defined.md U9). Raised by `romGuard` in Ops.lean; never under the default. Safe: the model
  stops where the machine goes on. -/
  | romWrite
  deriving DecidableEq, Repr

/-- The reasons for which an instruction has no meaning in the model. -/
inductive Refusal where
  /-- No meaning yet; raised only by an arm of `exec`, and no arm is left. Safe: the model stops. -/
  | notModelled (mnemonic : String)
  deriving DecidableEq, Repr

/-- SR after reset, 0x3C: N 0, O 0, I_ 1, D 1, S 1, Z 0, C 0 (R350). -/
def Status.reset : Status where
  n := false
  o := false
  i := true
  d := true
  s := true
  z := false
  c := false

/-- The machine right after reset (R36, R350): the spec's values for PC, SR and the run state; logs 1 to 4, 10 and 11 name
every other value. -/
def State.reset : State where
  a := 0
  b := 0
  i := 0
  j := 0
  sp := 0
  pc := 0xFE00
  sr := Status.reset
  dr := 0x1000
  drHit := false
  imli := 0
  imhi := 0xFFFF
  emli := 0
  emhi := 0xFFFF
  ar := 0
  ir := 0
  run := .running
  mem := []
  ioAnswers := []
  ioTrace := []
  inputs := []
  drDraws := []
  cfg := Config.standard

end Sys2Proof.Machine
end

