-- ==== Sys2Proof/Modes.lean ====
section
/-! DEFINITION. The operand forms of the ANC16's instructions (spec/20_memory.md section 5; the *Encoding* tables of
spec/40_arithmetic.md to 49_system_io.md). Each mnemonic's form type has exactly the rows of its encoding table, so
that an instruction without an opcode (spec/93_implementation_defined.md U21) cannot be written. -/

namespace Sys2Proof

/-! ## Memory addressing modes (R50-R55) -/

/-- The six modes that form an effective address: zero page, zero page indexed, absolute, absolute indexed, indirect,
indirect indexed. -/
inductive MemMode where
  | zp (arg : Byte)
  | zpX (arg : Byte)
  | abs (arg : Word)
  | absX (arg : Word)
  | ind (arg : Word)
  | indX (arg : Word)
  deriving DecidableEq, Repr

/-- The modes without zero page: `LDA LDAH LDAL LDB LDBH LDBL`. -/
inductive AbsMode where
  | abs (arg : Word)
  | absX (arg : Word)
  | ind (arg : Word)
  | indX (arg : Word)
  deriving DecidableEq, Repr

/-- Absolute and indirect only: `LDDR LDI LDSP LDSR`. -/
inductive AbsIndMode where
  | abs (arg : Word)
  | ind (arg : Word)
  deriving DecidableEq, Repr

/-- Zero page, absolute and indirect: `LDJ STI CMPI WRTI`. -/
inductive ZpAbsIndMode where
  | zp (arg : Byte)
  | abs (arg : Word)
  | ind (arg : Word)
  deriving DecidableEq, Repr

/-- The loads of the bound registers: `LEMH LEML LIMH LIML`. -/
inductive BoundMode where
  | zp (arg : Byte)
  | zpX (arg : Byte)
  | abs (arg : Word)
  | ind (arg : Word)
  deriving DecidableEq, Repr

/-- The destinations of `STJ`: every mode but zero page indexed. -/
inductive StjMode where
  | zp (arg : Byte)
  | abs (arg : Word)
  | absX (arg : Word)
  | ind (arg : Word)
  | indX (arg : Word)
  deriving DecidableEq, Repr

/-- The memory operands of `PSH`: every mode but absolute indexed. -/
inductive PushMode where
  | zp (arg : Byte)
  | zpX (arg : Byte)
  | abs (arg : Word)
  | ind (arg : Word)
  | indX (arg : Word)
  deriving DecidableEq, Repr

/-! ## Sources of a load (R140) -/

/-- What a byte load copies: a one-byte immediate or memory in one of the modes `M`. -/
inductive Src8 (M : Type) where
  | imm (arg : Byte)
  | mem (m : M)
  deriving DecidableEq, Repr

/-- What a word load copies: a two-byte immediate or memory in one of the modes `M`. -/
inductive Src16 (M : Type) where
  | imm (arg : Word)
  | mem (m : M)
  deriving DecidableEq, Repr

/-! ## Operands of arithmetic, logical and compare instructions -/

/-- `ADA ADB` (R104, R105): the other of A and B, an immediate byte or word, a memory word. -/
inductive AddForm where
  | other
  | imm8 (arg : Byte)
  | imm16 (arg : Word)
  | mem (m : MemMode)
  deriving DecidableEq, Repr

/-- `SUA SUB ANA ANB ORA ORB XORA XORB` (R114, R115, R120): as `AddForm`, and the index register. -/
inductive AluForm where
  | other
  | index
  | imm8 (arg : Byte)
  | imm16 (arg : Word)
  | mem (m : MemMode)
  deriving DecidableEq, Repr

/-- `CMAH CMBH` (R220, R221): the other of AH and BH, an immediate byte, a memory byte. -/
inductive CmpHighForm where
  | other
  | imm8 (arg : Byte)
  | mem (m : MemMode)
  deriving DecidableEq, Repr

/-- `CMPA CMPB` (R222, R223): the other of A and B, the index register, an immediate word, a memory word. -/
inductive CmpForm where
  | other
  | index
  | imm16 (arg : Word)
  | mem (m : MemMode)
  deriving DecidableEq, Repr

/-- `CMPI` (R224): A, an immediate word, a memory word. -/
inductive CmpIndexForm where
  | accumulator
  | imm16 (arg : Word)
  | mem (m : ZpAbsIndMode)
  deriving DecidableEq, Repr

/-- `MSB` (R252): A or B. -/
inductive MsbForm where
  | accumulator
  | base
  deriving DecidableEq, Repr

/-- `SHL SHR` (R131, R132): A, B or I. -/
inductive ShiftForm where
  | accumulator
  | base
  | index
  deriving DecidableEq, Repr

/-! ## Jumps, stack, IO, and the opcodes without an operand -/

/-- The conditional jumps (R232-R240): relative with J, relative, absolute. -/
inductive JumpForm where
  | relJ
  | rel (arg : Byte)
  | abs (arg : Word)
  deriving DecidableEq, Repr

/-- `JMP` (R235). -/
inductive JmpForm where
  | accumulator
  | base
  | index
  | relJ
  | rel (arg : Byte)
  | abs (arg : Word)
  | ind (arg : Word)
  deriving DecidableEq, Repr

/-- `PSH` (R200); `frame` is the implied form, which pushes SR and a return address. -/
inductive PushForm where
  | accumulator
  | base
  | ah
  | al
  | frame
  | imm8 (arg : Byte)
  | mem (m : PushMode)
  deriving DecidableEq, Repr

/-- `POP` (R201). -/
inductive PopForm where
  | accumulator
  | base
  | ah
  | al
  deriving DecidableEq, Repr

/-- `READ` (R259): the external address is A, B, or formed from the argument. -/
inductive ReadForm where
  | accumulator
  | base
  | zp (arg : Byte)
  | zpX (arg : Byte)
  | abs (arg : Word)
  | absX (arg : Word)
  deriving DecidableEq, Repr

/-- `WRTE` (R260). -/
inductive WrteForm where
  | abs (arg : Word)
  | absX (arg : Word)
  deriving DecidableEq, Repr

/-- `WRTI` (R261): the datum is AH, BH, an immediate byte, or a byte of internal memory. -/
inductive WrtiForm where
  | ah
  | bh
  | imm8 (arg : Byte)
  | mem (m : ZpAbsIndMode)
  deriving DecidableEq, Repr

/-- The three opcodes of `KILL` (R251). -/
inductive KillForm where
  | op0001
  | op3FFD
  | op8086 (arg : Word)
  deriving DecidableEq, Repr

/-- The twenty-two opcodes of `NOP` (R253). -/
inductive NopForm where
  | op0000
  | op0029
  | op002A
  | op002B
  | op002C
  | op002F
  | op0030
  | op0033
  | op0034
  | op0035
  | op0069
  | op3FFC
  | op4000 (arg : Byte)
  | op4023 (arg : Byte)
  | op4038 (arg : Byte)
  | op405D (arg : Byte)
  | op7FFF (arg : Byte)
  | op8000 (arg : Word)
  | op8076 (arg : Word)
  | op8078 (arg : Word)
  | op80BF (arg : Word)
  | op80FE (arg : Word)
  deriving DecidableEq, Repr

end Sys2Proof
end

