-- ==== Sys2Proof/Syntax.lean ====
section
/-! DEFINITION. The instructions of the ANC16 (spec/30_encoding.md R88): one constructor for each of the 99 mnemonics,
in the order of the summary table, carrying the operand form of its row. A constructor together with its form (and
the argument left open) is exactly one of the 392 rows of spec/opcode_table.json. Rows of one mnemonic share a
constructor because Lean cannot compile an inductive type of 392 constructors with arguments (log 16). -/

namespace Sys2Proof

/-- One ANC16 instruction; a star marks the privileged mnemonics (R82). -/
inductive Instr where
  /-- ADA (R104), opcodes 0014 4004 4005 4006 8004 8005 8006 8007 8033. -/
  | ada (form : AddForm)
  /-- ADB (R105), opcodes 0015 4007 4008 4009 8008 8009 800A 800B 8034. -/
  | adb (form : AddForm)
  /-- ANA (R121), opcodes 0016 0018 400A 400B 400C 800C 800D 800E 800F 8035. -/
  | ana (form : AluForm)
  /-- ANB (R122), opcodes 0017 0019 400D 400E 400F 8010 8011 8012 8013 8036. -/
  | anb (form : AluForm)
  /-- ARET (R211), opcode 0002. -/
  | aret
  /-- CLC (R212), opcode 0010. -/
  | clc
  /-- *CLD (R213), opcode 0012. -/
  | cld
  /-- *CLI (R214), opcode 0013. -/
  | cli
  /-- CLO (R215), opcode 0011. -/
  | clo
  /-- *CLS (R216), opcode 0061. -/
  | cls
  /-- CMAH (R220), opcodes 001A 403F 4040 4041 8014 8015 8016 8017. -/
  | cmah (form : CmpHighForm)
  /-- CMBH (R221), opcodes 001B 4042 4043 4044 8018 8019 801A 801B. -/
  | cmbh (form : CmpHighForm)
  /-- CMPA (R222), opcodes 001C 001E 4045 4046 801C 801D 801E 801F 8024. -/
  | cmpa (form : CmpForm)
  /-- CMPB (R223), opcodes 001D 001F 4047 4048 8020 8021 8022 8023 8025. -/
  | cmpb (form : CmpForm)
  /-- CMPI (R224), opcodes 0020 4049 8026 8027 8028. -/
  | cmpi (form : CmpIndexForm)
  /-- CPUID (R250), opcode 0003. -/
  | cpuid
  /-- DEA (R106), opcode 0008. -/
  | dea
  /-- DEB (R107), opcode 0009. -/
  | deb
  /-- DEI (R108), opcode 000A. -/
  | dei
  /-- DEJ (R109), opcode 000B. -/
  | dej
  /-- INA (R110), opcode 0004. -/
  | ina
  /-- INB (R111), opcode 0005. -/
  | inb
  /-- INI (R112), opcode 0006. -/
  | ini
  /-- INJ (R113), opcode 0007. -/
  | inj
  /-- JCC (R232), opcodes 0021 4010 8029. -/
  | jcc (form : JumpForm)
  /-- JCS (R233), opcodes 0025 4014 802D. -/
  | jcs (form : JumpForm)
  /-- JEQ (R234), opcodes 0027 4016 802F. -/
  | jeq (form : JumpForm)
  /-- JMP (R235), opcodes 0056 0057 0058 0063 405C 8031 8032. -/
  | jmp (form : JmpForm)
  /-- JNC (R236), opcodes 0024 4013 802C. -/
  | jnc (form : JumpForm)
  /-- JNE (R237), opcodes 0023 4012 802B. -/
  | jne (form : JumpForm)
  /-- JNS (R238), opcodes 0028 4017 8030. -/
  | jns (form : JumpForm)
  /-- JOC (R239), opcodes 0022 4011 802A. -/
  | joc (form : JumpForm)
  /-- JOS (R240), opcodes 0026 4015 802E. -/
  | jos (form : JumpForm)
  /-- *KILL (R251), opcodes 0001 3FFD 8086. -/
  | kill (form : KillForm)
  /-- LDA (R141), opcodes 8037 8038 8039 803A 8053. -/
  | lda (form : Src16 AbsMode)
  /-- LDAH (R142), opcodes 4018 803B 803C 803D 803E. -/
  | ldah (form : Src8 AbsMode)
  /-- LDAL (R143), opcodes 4019 803F 8040 8041 8042. -/
  | ldal (form : Src8 AbsMode)
  /-- LDB (R144), opcodes 8043 8044 8045 8046 8054. -/
  | ldb (form : Src16 AbsMode)
  /-- LDBH (R145), opcodes 401A 8047 8048 8049 804A. -/
  | ldbh (form : Src8 AbsMode)
  /-- LDBL (R146), opcodes 401B 804B 804C 804D 804E. -/
  | ldbl (form : Src8 AbsMode)
  /-- *LDDR (R147), opcodes 808A 808B 808C. -/
  | lddr (form : Src16 AbsIndMode)
  /-- LDI (R148), opcodes 804F 8050 8055. -/
  | ldi (form : Src16 AbsIndMode)
  /-- LDJ (R149), opcodes 401C 404A 8051 8052. -/
  | ldj (form : Src8 ZpAbsIndMode)
  /-- LDSP (R151), opcodes 8056 8057 8058. -/
  | ldsp (form : Src16 AbsIndMode)
  /-- LDSR (R150), opcodes 4053 80A9 80B0. -/
  | ldsr (form : Src8 AbsIndMode)
  /-- *LEMH (R152), opcodes 4054 4055 80B1 80B2 80B3. -/
  | lemh (form : Src16 BoundMode)
  /-- *LEML (R153), opcodes 4056 4057 80B4 80B5 80B6. -/
  | leml (form : Src16 BoundMode)
  /-- *LIMH (R154), opcodes 404B 404C 808D 808E 808F. -/
  | limh (form : Src16 BoundMode)
  /-- *LIML (R155), opcodes 404D 404E 8090 8091 8092. -/
  | liml (form : Src16 BoundMode)
  /-- MSB (R252), opcodes 000C 000D. -/
  | msb (form : MsbForm)
  /-- NOP (R253), opcodes 0000 0029 002A 002B 002C 002F 0030 0033 0034 0035 0069 3FFC 4000 4023 4038 405D 7FFF 8000 8076 8078 80BF 80FE. -/
  | nop (form : NopForm)
  /-- ORA (R123), opcodes 0036 0038 401D 401E 401F 8059 805A 805B 805C 8061. -/
  | ora (form : AluForm)
  /-- ORB (R124), opcodes 0037 0039 4020 4021 4022 805D 805E 805F 8060 8062. -/
  | orb (form : AluForm)
  /-- POP (R201), opcodes 0065 0066 0067 0068. -/
  | pop (form : PopForm)
  /-- PSH (R200), opcodes 003A 003B 003C 003D 0064 4001 4002 4003 8001 8002 8003. -/
  | psh (form : PushForm)
  /-- READ (R259), opcodes 003E 003F 4024 4025 8063 8064. -/
  | read (form : ReadForm)
  /-- *REST (R254), opcode 3FFE. -/
  | rest
  /-- RET (R202), opcode 80FF. -/
  | ret
  /-- *SED (R217), opcode 000F. -/
  | sed
  /-- *SEI (R218), opcode 000E. -/
  | sei
  /-- SEMH (R191), opcodes 4058 4059 80B7 80B8 80B9 80BA. -/
  | semh (form : MemMode)
  /-- SEML (R192), opcodes 405A 405B 80BB 80BC 80BD 80BE. -/
  | seml (form : MemMode)
  /-- *SES (R219), opcode 0062. -/
  | ses
  /-- SHL (R131), opcodes 0040 0041 0042. -/
  | shl (form : ShiftForm)
  /-- SHR (R132), opcodes 0043 0044 0045. -/
  | shr (form : ShiftForm)
  /-- SIMH (R189), opcodes 404F 4050 8093 8094 8095 8096. -/
  | simh (form : MemMode)
  /-- SIML (R190), opcodes 4051 4052 8097 8098 8099 809A. -/
  | siml (form : MemMode)
  /-- STA (R181), opcodes 4026 4027 8065 8066 8067 8068. -/
  | sta (form : MemMode)
  /-- STAH (R182), opcodes 4028 4029 8069 806A 806B 806C. -/
  | stah (form : MemMode)
  /-- STB (R183), opcodes 402A 402B 806D 806E 806F 8070. -/
  | stb (form : MemMode)
  /-- STBH (R184), opcodes 402C 402D 8071 8072 8073 8074. -/
  | stbh (form : MemMode)
  /-- STI (R185), opcodes 402E 8075 8077. -/
  | sti (form : ZpAbsIndMode)
  /-- STJ (R186), opcodes 402F 8079 807A 807B 807C. -/
  | stj (form : StjMode)
  /-- STPC (R187), opcode 80A7. -/
  | stpc (arg : Word)
  /-- STSR (R188), opcode 80A8. -/
  | stsr (arg : Word)
  /-- SUA (R114), opcodes 0046 0048 4030 4031 4032 807D 807E 807F 8080 809B. -/
  | sua (form : AluForm)
  /-- SUB (R115), opcodes 0047 0049 4033 4034 4035 8081 8082 8083 8084 809C. -/
  | sub (form : AluForm)
  /-- SYS (R258), opcode 3FFF. -/
  | sys
  /-- TAB (R161), opcode 004A. -/
  | tab
  /-- TABH (R162), opcode 002E. -/
  | tabh
  /-- TABL (R163), opcode 005A. -/
  | tabl
  /-- *TADR (R164), opcode 005B. -/
  | tadr
  /-- *TAEMH (R165), opcode 005F. -/
  | taemh
  /-- *TAEML (R166), opcode 0060. -/
  | taeml
  /-- TAHJ (R167), opcode 0031. -/
  | tahj
  /-- TAI (R168), opcode 004B. -/
  | tai
  /-- *TAIMH (R169), opcode 005C. -/
  | taimh
  /-- *TAIML (R170), opcode 005D. -/
  | taiml
  /-- TBA (R171), opcode 004C. -/
  | tba
  /-- TBAH (R172), opcode 002D. -/
  | tbah
  /-- TBAL (R173), opcode 0059. -/
  | tbal
  /-- TBHJ (R174), opcode 0032. -/
  | tbhj
  /-- TBI (R175), opcode 004D. -/
  | tbi
  /-- TISP (R176), opcode 004E. -/
  | tisp
  /-- TSPB (R177), opcode 004F. -/
  | tspb
  /-- WRTE (R260), opcodes 8085 8087. -/
  | wrte (form : WrteForm)
  /-- WRTI (R261), opcodes 0050 0051 4036 4037 8088 8089. -/
  | wrti (form : WrtiForm)
  /-- XORA (R125), opcodes 0052 0054 4039 403A 403B 809D 809E 809F 80A0 80A5. -/
  | xora (form : AluForm)
  /-- XORB (R126), opcodes 0053 0055 403C 403D 403E 80A1 80A2 80A3 80A4 80A6. -/
  | xorb (form : AluForm)
  deriving DecidableEq, Repr

end Sys2Proof
end

