-- ==== Sys2Proof/WellFormed.lean ====
section
/-! DEFINITION. Which encodings are well formed (spec/30_encoding.md R71, R72, R80). An `Instr` carries its argument at
the exact width of its format, so every `Instr` is well formed by its type; what can be ill formed is an encoding:
an opcode that the CPU does not recognise, or an argument of the wrong length. -/

namespace Sys2Proof

/-- An instruction as it stands in memory, before decoding: a 16-bit opcode and the argument bytes that follow it. -/
structure RawInstr where
  opcode : Word
  args : List Byte
  deriving DecidableEq, Repr

/-- The opcode values that are none of the 392, as R80 lists them. -/
def opcodeUnrecognised (op : Nat) : Bool :=
  op == 0x005E || (0x006A ≤ op && op ≤ 0x3FFB) || (0x405E ≤ op && op ≤ 0x7FFE) ||
    (0x80AA ≤ op && op ≤ 0x80AF) || (0x80C0 ≤ op && op ≤ 0x80FD) || (0x8100 ≤ op && op ≤ 0xFFFF)

/-- The number of argument bytes: the opcode's two top bits, but for `RET` 80FF, which has none (R72). -/
def opcodeArgBytes (op : Nat) : Nat :=
  if op == 0x80FF then 0 else op / 0x4000

/-- A well-formed encoding: a recognised opcode, followed by exactly its argument bytes. -/
def RawInstr.wellFormed (r : RawInstr) : Bool :=
  !opcodeUnrecognised r.opcode.toNat && r.args.length == opcodeArgBytes r.opcode.toNat

/-- Every instruction of the syntax is well formed: the type of its argument leaves nothing to check. -/
abbrev Instr.wellFormed (_ : Instr) : Bool := true

end Sys2Proof
end

