-- ==== Sys2Proof/Decode.lean ====
section
/-! DEFINITION. Decoding and encoding (spec/30_encoding.md sections 1 to 6). The whole 16-bit opcode selects the
instruction and its addressing mode (R70, R89), so the decoder is a lookup in the opcode map of R83. The encoder,
below it, is written from the same map the other way round. -/

namespace Sys2Proof

/-! ## Byte order (spec/20_memory.md R42: big endian throughout) -/

/-- The word whose high byte is `hi` and whose low byte is `lo`. -/
def joinBytes (hi lo : Byte) : Word := hi ++ lo

/-- Bits 15:8 of a word. -/
def hiByte (w : Word) : Byte := w.extractLsb' 8 8

/-- Bits 7:0 of a word. -/
def loByte (w : Word) : Byte := w.extractLsb' 0 8

/-! ## Operand forms: lengths, and the same mode among the six (R50-R55, R71) -/

/-- The length of an instruction with a memory operand: 3 bytes in the zero-page modes (F1), else 4 (F2) (R71-R75). -/
def MemMode.length : MemMode → Nat
  | .zp _ | .zpX _ => 3
  | .abs _ | .absX _ | .ind _ | .indX _ => 4

/-- The same addressing mode among the six. -/
def AbsMode.toMem : AbsMode → MemMode
  | .abs arg => .abs arg
  | .absX arg => .absX arg
  | .ind arg => .ind arg
  | .indX arg => .indX arg

/-- The same addressing mode among the six. -/
def AbsIndMode.toMem : AbsIndMode → MemMode
  | .abs arg => .abs arg
  | .ind arg => .ind arg

/-- The same addressing mode among the six. -/
def ZpAbsIndMode.toMem : ZpAbsIndMode → MemMode
  | .zp arg => .zp arg
  | .abs arg => .abs arg
  | .ind arg => .ind arg

/-- The same addressing mode among the six. -/
def BoundMode.toMem : BoundMode → MemMode
  | .zp arg => .zp arg
  | .zpX arg => .zpX arg
  | .abs arg => .abs arg
  | .ind arg => .ind arg

/-- The same addressing mode among the six. -/
def StjMode.toMem : StjMode → MemMode
  | .zp arg => .zp arg
  | .abs arg => .abs arg
  | .absX arg => .absX arg
  | .ind arg => .ind arg
  | .indX arg => .indX arg

/-- The same addressing mode among the six. -/
def PushMode.toMem : PushMode → MemMode
  | .zp arg => .zp arg
  | .zpX arg => .zpX arg
  | .abs arg => .abs arg
  | .ind arg => .ind arg
  | .indX arg => .indX arg

/-- The same source with its mode among the six. -/
def Src8.toMem {M : Type} (f : M → MemMode) : Src8 M → Src8 MemMode
  | .imm arg => .imm arg
  | .mem m => .mem (f m)

/-- The same source with its mode among the six. -/
def Src16.toMem {M : Type} (f : M → MemMode) : Src16 M → Src16 MemMode
  | .imm arg => .imm arg
  | .mem m => .mem (f m)

/-! ## The opcode map (R83) -/

/-- An opcode's format (R73-R75) with the instruction it makes of its argument. -/
inductive Format where
  /-- F0: no argument. -/
  | f0 (i : Instr)
  /-- F1: one argument byte. -/
  | f1 (mk : Byte → Instr)
  /-- F2: two argument bytes, big endian. -/
  | f2 (mk : Word → Instr)

/-- The opcodes 0000 to 0013 of R83. -/
def opcodes0000 : List (Nat × Format) := [
  (0x0000, .f0 (.nop .op0000)),
  (0x0001, .f0 (.kill .op0001)),
  (0x0002, .f0 .aret),
  (0x0003, .f0 .cpuid),
  (0x0004, .f0 .ina),
  (0x0005, .f0 .inb),
  (0x0006, .f0 .ini),
  (0x0007, .f0 .inj),
  (0x0008, .f0 .dea),
  (0x0009, .f0 .deb),
  (0x000A, .f0 .dei),
  (0x000B, .f0 .dej),
  (0x000C, .f0 (.msb .accumulator)),
  (0x000D, .f0 (.msb .base)),
  (0x000E, .f0 .sei),
  (0x000F, .f0 .sed),
  (0x0010, .f0 .clc),
  (0x0011, .f0 .clo),
  (0x0012, .f0 .cld),
  (0x0013, .f0 .cli)]

/-- The opcodes 0014 to 0027 of R83. -/
def opcodes0014 : List (Nat × Format) := [
  (0x0014, .f0 (.ada .other)),
  (0x0015, .f0 (.adb .other)),
  (0x0016, .f0 (.ana .other)),
  (0x0017, .f0 (.anb .other)),
  (0x0018, .f0 (.ana .index)),
  (0x0019, .f0 (.anb .index)),
  (0x001A, .f0 (.cmah .other)),
  (0x001B, .f0 (.cmbh .other)),
  (0x001C, .f0 (.cmpa .other)),
  (0x001D, .f0 (.cmpb .other)),
  (0x001E, .f0 (.cmpa .index)),
  (0x001F, .f0 (.cmpb .index)),
  (0x0020, .f0 (.cmpi .accumulator)),
  (0x0021, .f0 (.jcc .relJ)),
  (0x0022, .f0 (.joc .relJ)),
  (0x0023, .f0 (.jne .relJ)),
  (0x0024, .f0 (.jnc .relJ)),
  (0x0025, .f0 (.jcs .relJ)),
  (0x0026, .f0 (.jos .relJ)),
  (0x0027, .f0 (.jeq .relJ))]

/-- The opcodes 0028 to 003B of R83. -/
def opcodes0028 : List (Nat × Format) := [
  (0x0028, .f0 (.jns .relJ)),
  (0x0029, .f0 (.nop .op0029)),
  (0x002A, .f0 (.nop .op002A)),
  (0x002B, .f0 (.nop .op002B)),
  (0x002C, .f0 (.nop .op002C)),
  (0x002D, .f0 .tbah),
  (0x002E, .f0 .tabh),
  (0x002F, .f0 (.nop .op002F)),
  (0x0030, .f0 (.nop .op0030)),
  (0x0031, .f0 .tahj),
  (0x0032, .f0 .tbhj),
  (0x0033, .f0 (.nop .op0033)),
  (0x0034, .f0 (.nop .op0034)),
  (0x0035, .f0 (.nop .op0035)),
  (0x0036, .f0 (.ora .other)),
  (0x0037, .f0 (.orb .other)),
  (0x0038, .f0 (.ora .index)),
  (0x0039, .f0 (.orb .index)),
  (0x003A, .f0 (.psh .accumulator)),
  (0x003B, .f0 (.psh .base))]

/-- The opcodes 003C to 004F of R83. -/
def opcodes003C : List (Nat × Format) := [
  (0x003C, .f0 (.psh .ah)),
  (0x003D, .f0 (.psh .al)),
  (0x003E, .f0 (.read .accumulator)),
  (0x003F, .f0 (.read .base)),
  (0x0040, .f0 (.shl .accumulator)),
  (0x0041, .f0 (.shl .base)),
  (0x0042, .f0 (.shl .index)),
  (0x0043, .f0 (.shr .accumulator)),
  (0x0044, .f0 (.shr .base)),
  (0x0045, .f0 (.shr .index)),
  (0x0046, .f0 (.sua .other)),
  (0x0047, .f0 (.sub .other)),
  (0x0048, .f0 (.sua .index)),
  (0x0049, .f0 (.sub .index)),
  (0x004A, .f0 .tab),
  (0x004B, .f0 .tai),
  (0x004C, .f0 .tba),
  (0x004D, .f0 .tbi),
  (0x004E, .f0 .tisp),
  (0x004F, .f0 .tspb)]

/-- The opcodes 0050 to 0064 of R83. -/
def opcodes0050 : List (Nat × Format) := [
  (0x0050, .f0 (.wrti .ah)),
  (0x0051, .f0 (.wrti .bh)),
  (0x0052, .f0 (.xora .other)),
  (0x0053, .f0 (.xorb .other)),
  (0x0054, .f0 (.xora .index)),
  (0x0055, .f0 (.xorb .index)),
  (0x0056, .f0 (.jmp .accumulator)),
  (0x0057, .f0 (.jmp .base)),
  (0x0058, .f0 (.jmp .index)),
  (0x0059, .f0 .tbal),
  (0x005A, .f0 .tabl),
  (0x005B, .f0 .tadr),
  (0x005C, .f0 .taimh),
  (0x005D, .f0 .taiml),
  (0x005F, .f0 .taemh),
  (0x0060, .f0 .taeml),
  (0x0061, .f0 .cls),
  (0x0062, .f0 .ses),
  (0x0063, .f0 (.jmp .relJ)),
  (0x0064, .f0 (.psh .frame))]

/-- The opcodes 0065 to 400A of R83. -/
def opcodes0065 : List (Nat × Format) := [
  (0x0065, .f0 (.pop .accumulator)),
  (0x0066, .f0 (.pop .base)),
  (0x0067, .f0 (.pop .ah)),
  (0x0068, .f0 (.pop .al)),
  (0x0069, .f0 (.nop .op0069)),
  (0x3FFC, .f0 (.nop .op3FFC)),
  (0x3FFD, .f0 (.kill .op3FFD)),
  (0x3FFE, .f0 .rest),
  (0x3FFF, .f0 .sys),
  (0x4000, .f1 fun arg => .nop (.op4000 arg)),
  (0x4001, .f1 fun arg => .psh (.imm8 arg)),
  (0x4002, .f1 fun arg => .psh (.mem (.zpX arg))),
  (0x4003, .f1 fun arg => .psh (.mem (.zp arg))),
  (0x4004, .f1 fun arg => .ada (.imm8 arg)),
  (0x4005, .f1 fun arg => .ada (.mem (.zp arg))),
  (0x4006, .f1 fun arg => .ada (.mem (.zpX arg))),
  (0x4007, .f1 fun arg => .adb (.imm8 arg)),
  (0x4008, .f1 fun arg => .adb (.mem (.zp arg))),
  (0x4009, .f1 fun arg => .adb (.mem (.zpX arg))),
  (0x400A, .f1 fun arg => .ana (.imm8 arg))]

/-- The opcodes 400B to 401E of R83. -/
def opcodes400B : List (Nat × Format) := [
  (0x400B, .f1 fun arg => .ana (.mem (.zp arg))),
  (0x400C, .f1 fun arg => .ana (.mem (.zpX arg))),
  (0x400D, .f1 fun arg => .anb (.imm8 arg)),
  (0x400E, .f1 fun arg => .anb (.mem (.zp arg))),
  (0x400F, .f1 fun arg => .anb (.mem (.zpX arg))),
  (0x4010, .f1 fun arg => .jcc (.rel arg)),
  (0x4011, .f1 fun arg => .joc (.rel arg)),
  (0x4012, .f1 fun arg => .jne (.rel arg)),
  (0x4013, .f1 fun arg => .jnc (.rel arg)),
  (0x4014, .f1 fun arg => .jcs (.rel arg)),
  (0x4015, .f1 fun arg => .jos (.rel arg)),
  (0x4016, .f1 fun arg => .jeq (.rel arg)),
  (0x4017, .f1 fun arg => .jns (.rel arg)),
  (0x4018, .f1 fun arg => .ldah (.imm arg)),
  (0x4019, .f1 fun arg => .ldal (.imm arg)),
  (0x401A, .f1 fun arg => .ldbh (.imm arg)),
  (0x401B, .f1 fun arg => .ldbl (.imm arg)),
  (0x401C, .f1 fun arg => .ldj (.imm arg)),
  (0x401D, .f1 fun arg => .ora (.imm8 arg)),
  (0x401E, .f1 fun arg => .ora (.mem (.zp arg)))]

/-- The opcodes 401F to 4032 of R83. -/
def opcodes401F : List (Nat × Format) := [
  (0x401F, .f1 fun arg => .ora (.mem (.zpX arg))),
  (0x4020, .f1 fun arg => .orb (.imm8 arg)),
  (0x4021, .f1 fun arg => .orb (.mem (.zp arg))),
  (0x4022, .f1 fun arg => .orb (.mem (.zpX arg))),
  (0x4023, .f1 fun arg => .nop (.op4023 arg)),
  (0x4024, .f1 fun arg => .read (.zp arg)),
  (0x4025, .f1 fun arg => .read (.zpX arg)),
  (0x4026, .f1 fun arg => .sta (.zp arg)),
  (0x4027, .f1 fun arg => .sta (.zpX arg)),
  (0x4028, .f1 fun arg => .stah (.zp arg)),
  (0x4029, .f1 fun arg => .stah (.zpX arg)),
  (0x402A, .f1 fun arg => .stb (.zp arg)),
  (0x402B, .f1 fun arg => .stb (.zpX arg)),
  (0x402C, .f1 fun arg => .stbh (.zp arg)),
  (0x402D, .f1 fun arg => .stbh (.zpX arg)),
  (0x402E, .f1 fun arg => .sti (.zp arg)),
  (0x402F, .f1 fun arg => .stj (.zp arg)),
  (0x4030, .f1 fun arg => .sua (.imm8 arg)),
  (0x4031, .f1 fun arg => .sua (.mem (.zp arg))),
  (0x4032, .f1 fun arg => .sua (.mem (.zpX arg)))]

/-- The opcodes 4033 to 4046 of R83. -/
def opcodes4033 : List (Nat × Format) := [
  (0x4033, .f1 fun arg => .sub (.imm8 arg)),
  (0x4034, .f1 fun arg => .sub (.mem (.zp arg))),
  (0x4035, .f1 fun arg => .sub (.mem (.zpX arg))),
  (0x4036, .f1 fun arg => .wrti (.imm8 arg)),
  (0x4037, .f1 fun arg => .wrti (.mem (.zp arg))),
  (0x4038, .f1 fun arg => .nop (.op4038 arg)),
  (0x4039, .f1 fun arg => .xora (.imm8 arg)),
  (0x403A, .f1 fun arg => .xora (.mem (.zp arg))),
  (0x403B, .f1 fun arg => .xora (.mem (.zpX arg))),
  (0x403C, .f1 fun arg => .xorb (.imm8 arg)),
  (0x403D, .f1 fun arg => .xorb (.mem (.zp arg))),
  (0x403E, .f1 fun arg => .xorb (.mem (.zpX arg))),
  (0x403F, .f1 fun arg => .cmah (.imm8 arg)),
  (0x4040, .f1 fun arg => .cmah (.mem (.zp arg))),
  (0x4041, .f1 fun arg => .cmah (.mem (.zpX arg))),
  (0x4042, .f1 fun arg => .cmbh (.imm8 arg)),
  (0x4043, .f1 fun arg => .cmbh (.mem (.zp arg))),
  (0x4044, .f1 fun arg => .cmbh (.mem (.zpX arg))),
  (0x4045, .f1 fun arg => .cmpa (.mem (.zp arg))),
  (0x4046, .f1 fun arg => .cmpa (.mem (.zpX arg)))]

/-- The opcodes 4047 to 405A of R83. -/
def opcodes4047 : List (Nat × Format) := [
  (0x4047, .f1 fun arg => .cmpb (.mem (.zp arg))),
  (0x4048, .f1 fun arg => .cmpb (.mem (.zpX arg))),
  (0x4049, .f1 fun arg => .cmpi (.mem (.zp arg))),
  (0x404A, .f1 fun arg => .ldj (.mem (.zp arg))),
  (0x404B, .f1 fun arg => .limh (.mem (.zp arg))),
  (0x404C, .f1 fun arg => .limh (.mem (.zpX arg))),
  (0x404D, .f1 fun arg => .liml (.mem (.zp arg))),
  (0x404E, .f1 fun arg => .liml (.mem (.zpX arg))),
  (0x404F, .f1 fun arg => .simh (.zp arg)),
  (0x4050, .f1 fun arg => .simh (.zpX arg)),
  (0x4051, .f1 fun arg => .siml (.zp arg)),
  (0x4052, .f1 fun arg => .siml (.zpX arg)),
  (0x4053, .f1 fun arg => .ldsr (.imm arg)),
  (0x4054, .f1 fun arg => .lemh (.mem (.zp arg))),
  (0x4055, .f1 fun arg => .lemh (.mem (.zpX arg))),
  (0x4056, .f1 fun arg => .leml (.mem (.zp arg))),
  (0x4057, .f1 fun arg => .leml (.mem (.zpX arg))),
  (0x4058, .f1 fun arg => .semh (.zp arg)),
  (0x4059, .f1 fun arg => .semh (.zpX arg)),
  (0x405A, .f1 fun arg => .seml (.zp arg))]

/-- The opcodes 405B to 800F of R83. -/
def opcodes405B : List (Nat × Format) := [
  (0x405B, .f1 fun arg => .seml (.zpX arg)),
  (0x405C, .f1 fun arg => .jmp (.rel arg)),
  (0x405D, .f1 fun arg => .nop (.op405D arg)),
  (0x7FFF, .f1 fun arg => .nop (.op7FFF arg)),
  (0x8000, .f2 fun arg => .nop (.op8000 arg)),
  (0x8001, .f2 fun arg => .psh (.mem (.abs arg))),
  (0x8002, .f2 fun arg => .psh (.mem (.ind arg))),
  (0x8003, .f2 fun arg => .psh (.mem (.indX arg))),
  (0x8004, .f2 fun arg => .ada (.mem (.abs arg))),
  (0x8005, .f2 fun arg => .ada (.mem (.absX arg))),
  (0x8006, .f2 fun arg => .ada (.mem (.ind arg))),
  (0x8007, .f2 fun arg => .ada (.mem (.indX arg))),
  (0x8008, .f2 fun arg => .adb (.mem (.abs arg))),
  (0x8009, .f2 fun arg => .adb (.mem (.absX arg))),
  (0x800A, .f2 fun arg => .adb (.mem (.ind arg))),
  (0x800B, .f2 fun arg => .adb (.mem (.indX arg))),
  (0x800C, .f2 fun arg => .ana (.mem (.abs arg))),
  (0x800D, .f2 fun arg => .ana (.mem (.absX arg))),
  (0x800E, .f2 fun arg => .ana (.mem (.ind arg))),
  (0x800F, .f2 fun arg => .ana (.mem (.indX arg)))]

/-- The opcodes 8010 to 8023 of R83. -/
def opcodes8010 : List (Nat × Format) := [
  (0x8010, .f2 fun arg => .anb (.mem (.abs arg))),
  (0x8011, .f2 fun arg => .anb (.mem (.absX arg))),
  (0x8012, .f2 fun arg => .anb (.mem (.ind arg))),
  (0x8013, .f2 fun arg => .anb (.mem (.indX arg))),
  (0x8014, .f2 fun arg => .cmah (.mem (.abs arg))),
  (0x8015, .f2 fun arg => .cmah (.mem (.absX arg))),
  (0x8016, .f2 fun arg => .cmah (.mem (.ind arg))),
  (0x8017, .f2 fun arg => .cmah (.mem (.indX arg))),
  (0x8018, .f2 fun arg => .cmbh (.mem (.abs arg))),
  (0x8019, .f2 fun arg => .cmbh (.mem (.absX arg))),
  (0x801A, .f2 fun arg => .cmbh (.mem (.ind arg))),
  (0x801B, .f2 fun arg => .cmbh (.mem (.indX arg))),
  (0x801C, .f2 fun arg => .cmpa (.mem (.abs arg))),
  (0x801D, .f2 fun arg => .cmpa (.mem (.absX arg))),
  (0x801E, .f2 fun arg => .cmpa (.mem (.ind arg))),
  (0x801F, .f2 fun arg => .cmpa (.mem (.indX arg))),
  (0x8020, .f2 fun arg => .cmpb (.mem (.abs arg))),
  (0x8021, .f2 fun arg => .cmpb (.mem (.absX arg))),
  (0x8022, .f2 fun arg => .cmpb (.mem (.ind arg))),
  (0x8023, .f2 fun arg => .cmpb (.mem (.indX arg)))]

/-- The opcodes 8024 to 8037 of R83. -/
def opcodes8024 : List (Nat × Format) := [
  (0x8024, .f2 fun arg => .cmpa (.imm16 arg)),
  (0x8025, .f2 fun arg => .cmpb (.imm16 arg)),
  (0x8026, .f2 fun arg => .cmpi (.imm16 arg)),
  (0x8027, .f2 fun arg => .cmpi (.mem (.abs arg))),
  (0x8028, .f2 fun arg => .cmpi (.mem (.ind arg))),
  (0x8029, .f2 fun arg => .jcc (.abs arg)),
  (0x802A, .f2 fun arg => .joc (.abs arg)),
  (0x802B, .f2 fun arg => .jne (.abs arg)),
  (0x802C, .f2 fun arg => .jnc (.abs arg)),
  (0x802D, .f2 fun arg => .jcs (.abs arg)),
  (0x802E, .f2 fun arg => .jos (.abs arg)),
  (0x802F, .f2 fun arg => .jeq (.abs arg)),
  (0x8030, .f2 fun arg => .jns (.abs arg)),
  (0x8031, .f2 fun arg => .jmp (.abs arg)),
  (0x8032, .f2 fun arg => .jmp (.ind arg)),
  (0x8033, .f2 fun arg => .ada (.imm16 arg)),
  (0x8034, .f2 fun arg => .adb (.imm16 arg)),
  (0x8035, .f2 fun arg => .ana (.imm16 arg)),
  (0x8036, .f2 fun arg => .anb (.imm16 arg)),
  (0x8037, .f2 fun arg => .lda (.mem (.abs arg)))]

/-- The opcodes 8038 to 804B of R83. -/
def opcodes8038 : List (Nat × Format) := [
  (0x8038, .f2 fun arg => .lda (.mem (.absX arg))),
  (0x8039, .f2 fun arg => .lda (.mem (.ind arg))),
  (0x803A, .f2 fun arg => .lda (.mem (.indX arg))),
  (0x803B, .f2 fun arg => .ldah (.mem (.abs arg))),
  (0x803C, .f2 fun arg => .ldah (.mem (.absX arg))),
  (0x803D, .f2 fun arg => .ldah (.mem (.ind arg))),
  (0x803E, .f2 fun arg => .ldah (.mem (.indX arg))),
  (0x803F, .f2 fun arg => .ldal (.mem (.abs arg))),
  (0x8040, .f2 fun arg => .ldal (.mem (.absX arg))),
  (0x8041, .f2 fun arg => .ldal (.mem (.ind arg))),
  (0x8042, .f2 fun arg => .ldal (.mem (.indX arg))),
  (0x8043, .f2 fun arg => .ldb (.mem (.abs arg))),
  (0x8044, .f2 fun arg => .ldb (.mem (.absX arg))),
  (0x8045, .f2 fun arg => .ldb (.mem (.ind arg))),
  (0x8046, .f2 fun arg => .ldb (.mem (.indX arg))),
  (0x8047, .f2 fun arg => .ldbh (.mem (.abs arg))),
  (0x8048, .f2 fun arg => .ldbh (.mem (.absX arg))),
  (0x8049, .f2 fun arg => .ldbh (.mem (.ind arg))),
  (0x804A, .f2 fun arg => .ldbh (.mem (.indX arg))),
  (0x804B, .f2 fun arg => .ldbl (.mem (.abs arg)))]

/-- The opcodes 804C to 805F of R83. -/
def opcodes804C : List (Nat × Format) := [
  (0x804C, .f2 fun arg => .ldbl (.mem (.absX arg))),
  (0x804D, .f2 fun arg => .ldbl (.mem (.ind arg))),
  (0x804E, .f2 fun arg => .ldbl (.mem (.indX arg))),
  (0x804F, .f2 fun arg => .ldi (.mem (.abs arg))),
  (0x8050, .f2 fun arg => .ldi (.mem (.ind arg))),
  (0x8051, .f2 fun arg => .ldj (.mem (.abs arg))),
  (0x8052, .f2 fun arg => .ldj (.mem (.ind arg))),
  (0x8053, .f2 fun arg => .lda (.imm arg)),
  (0x8054, .f2 fun arg => .ldb (.imm arg)),
  (0x8055, .f2 fun arg => .ldi (.imm arg)),
  (0x8056, .f2 fun arg => .ldsp (.mem (.abs arg))),
  (0x8057, .f2 fun arg => .ldsp (.mem (.ind arg))),
  (0x8058, .f2 fun arg => .ldsp (.imm arg)),
  (0x8059, .f2 fun arg => .ora (.mem (.abs arg))),
  (0x805A, .f2 fun arg => .ora (.mem (.absX arg))),
  (0x805B, .f2 fun arg => .ora (.mem (.ind arg))),
  (0x805C, .f2 fun arg => .ora (.mem (.indX arg))),
  (0x805D, .f2 fun arg => .orb (.mem (.abs arg))),
  (0x805E, .f2 fun arg => .orb (.mem (.absX arg))),
  (0x805F, .f2 fun arg => .orb (.mem (.ind arg)))]

/-- The opcodes 8060 to 8073 of R83. -/
def opcodes8060 : List (Nat × Format) := [
  (0x8060, .f2 fun arg => .orb (.mem (.indX arg))),
  (0x8061, .f2 fun arg => .ora (.imm16 arg)),
  (0x8062, .f2 fun arg => .orb (.imm16 arg)),
  (0x8063, .f2 fun arg => .read (.abs arg)),
  (0x8064, .f2 fun arg => .read (.absX arg)),
  (0x8065, .f2 fun arg => .sta (.abs arg)),
  (0x8066, .f2 fun arg => .sta (.absX arg)),
  (0x8067, .f2 fun arg => .sta (.ind arg)),
  (0x8068, .f2 fun arg => .sta (.indX arg)),
  (0x8069, .f2 fun arg => .stah (.abs arg)),
  (0x806A, .f2 fun arg => .stah (.absX arg)),
  (0x806B, .f2 fun arg => .stah (.ind arg)),
  (0x806C, .f2 fun arg => .stah (.indX arg)),
  (0x806D, .f2 fun arg => .stb (.abs arg)),
  (0x806E, .f2 fun arg => .stb (.absX arg)),
  (0x806F, .f2 fun arg => .stb (.ind arg)),
  (0x8070, .f2 fun arg => .stb (.indX arg)),
  (0x8071, .f2 fun arg => .stbh (.abs arg)),
  (0x8072, .f2 fun arg => .stbh (.absX arg)),
  (0x8073, .f2 fun arg => .stbh (.ind arg))]

/-- The opcodes 8074 to 8087 of R83. -/
def opcodes8074 : List (Nat × Format) := [
  (0x8074, .f2 fun arg => .stbh (.indX arg)),
  (0x8075, .f2 fun arg => .sti (.abs arg)),
  (0x8076, .f2 fun arg => .nop (.op8076 arg)),
  (0x8077, .f2 fun arg => .sti (.ind arg)),
  (0x8078, .f2 fun arg => .nop (.op8078 arg)),
  (0x8079, .f2 fun arg => .stj (.abs arg)),
  (0x807A, .f2 fun arg => .stj (.absX arg)),
  (0x807B, .f2 fun arg => .stj (.ind arg)),
  (0x807C, .f2 fun arg => .stj (.indX arg)),
  (0x807D, .f2 fun arg => .sua (.mem (.abs arg))),
  (0x807E, .f2 fun arg => .sua (.mem (.absX arg))),
  (0x807F, .f2 fun arg => .sua (.mem (.ind arg))),
  (0x8080, .f2 fun arg => .sua (.mem (.indX arg))),
  (0x8081, .f2 fun arg => .sub (.mem (.abs arg))),
  (0x8082, .f2 fun arg => .sub (.mem (.absX arg))),
  (0x8083, .f2 fun arg => .sub (.mem (.ind arg))),
  (0x8084, .f2 fun arg => .sub (.mem (.indX arg))),
  (0x8085, .f2 fun arg => .wrte (.abs arg)),
  (0x8086, .f2 fun arg => .kill (.op8086 arg)),
  (0x8087, .f2 fun arg => .wrte (.absX arg))]

/-- The opcodes 8088 to 809B of R83. -/
def opcodes8088 : List (Nat × Format) := [
  (0x8088, .f2 fun arg => .wrti (.mem (.abs arg))),
  (0x8089, .f2 fun arg => .wrti (.mem (.ind arg))),
  (0x808A, .f2 fun arg => .lddr (.mem (.abs arg))),
  (0x808B, .f2 fun arg => .lddr (.mem (.ind arg))),
  (0x808C, .f2 fun arg => .lddr (.imm arg)),
  (0x808D, .f2 fun arg => .limh (.mem (.abs arg))),
  (0x808E, .f2 fun arg => .limh (.mem (.ind arg))),
  (0x808F, .f2 fun arg => .limh (.imm arg)),
  (0x8090, .f2 fun arg => .liml (.mem (.abs arg))),
  (0x8091, .f2 fun arg => .liml (.mem (.ind arg))),
  (0x8092, .f2 fun arg => .liml (.imm arg)),
  (0x8093, .f2 fun arg => .simh (.abs arg)),
  (0x8094, .f2 fun arg => .simh (.absX arg)),
  (0x8095, .f2 fun arg => .simh (.ind arg)),
  (0x8096, .f2 fun arg => .simh (.indX arg)),
  (0x8097, .f2 fun arg => .siml (.abs arg)),
  (0x8098, .f2 fun arg => .siml (.absX arg)),
  (0x8099, .f2 fun arg => .siml (.ind arg)),
  (0x809A, .f2 fun arg => .siml (.indX arg)),
  (0x809B, .f2 fun arg => .sua (.imm16 arg))]

/-- The opcodes 809C to 80B5 of R83. -/
def opcodes809C : List (Nat × Format) := [
  (0x809C, .f2 fun arg => .sub (.imm16 arg)),
  (0x809D, .f2 fun arg => .xora (.mem (.abs arg))),
  (0x809E, .f2 fun arg => .xora (.mem (.absX arg))),
  (0x809F, .f2 fun arg => .xora (.mem (.ind arg))),
  (0x80A0, .f2 fun arg => .xora (.mem (.indX arg))),
  (0x80A1, .f2 fun arg => .xorb (.mem (.abs arg))),
  (0x80A2, .f2 fun arg => .xorb (.mem (.absX arg))),
  (0x80A3, .f2 fun arg => .xorb (.mem (.ind arg))),
  (0x80A4, .f2 fun arg => .xorb (.mem (.indX arg))),
  (0x80A5, .f2 fun arg => .xora (.imm16 arg)),
  (0x80A6, .f2 fun arg => .xorb (.imm16 arg)),
  (0x80A7, .f2 fun arg => .stpc arg),
  (0x80A8, .f2 fun arg => .stsr arg),
  (0x80A9, .f2 fun arg => .ldsr (.mem (.abs arg))),
  (0x80B0, .f2 fun arg => .ldsr (.mem (.ind arg))),
  (0x80B1, .f2 fun arg => .lemh (.mem (.abs arg))),
  (0x80B2, .f2 fun arg => .lemh (.mem (.ind arg))),
  (0x80B3, .f2 fun arg => .lemh (.imm arg)),
  (0x80B4, .f2 fun arg => .leml (.mem (.abs arg))),
  (0x80B5, .f2 fun arg => .leml (.mem (.ind arg)))]

/-- The opcodes 80B6 to 80FF of R83. -/
def opcodes80B6 : List (Nat × Format) := [
  (0x80B6, .f2 fun arg => .leml (.imm arg)),
  (0x80B7, .f2 fun arg => .semh (.abs arg)),
  (0x80B8, .f2 fun arg => .semh (.absX arg)),
  (0x80B9, .f2 fun arg => .semh (.ind arg)),
  (0x80BA, .f2 fun arg => .semh (.indX arg)),
  (0x80BB, .f2 fun arg => .seml (.abs arg)),
  (0x80BC, .f2 fun arg => .seml (.absX arg)),
  (0x80BD, .f2 fun arg => .seml (.ind arg)),
  (0x80BE, .f2 fun arg => .seml (.indX arg)),
  (0x80BF, .f2 fun arg => .nop (.op80BF arg)),
  (0x80FE, .f2 fun arg => .nop (.op80FE arg)),
  (0x80FF, .f0 .ret)]

/-- The whole opcode map in pages, each under its last opcode. -/
def opcodePages : List (Nat × List (Nat × Format)) := [
  (0x0013, opcodes0000),
  (0x0027, opcodes0014),
  (0x003B, opcodes0028),
  (0x004F, opcodes003C),
  (0x0064, opcodes0050),
  (0x400A, opcodes0065),
  (0x401E, opcodes400B),
  (0x4032, opcodes401F),
  (0x4046, opcodes4033),
  (0x405A, opcodes4047),
  (0x800F, opcodes405B),
  (0x8023, opcodes8010),
  (0x8037, opcodes8024),
  (0x804B, opcodes8038),
  (0x805F, opcodes804C),
  (0x8073, opcodes8060),
  (0x8087, opcodes8074),
  (0x809B, opcodes8088),
  (0x80B5, opcodes809C),
  (0x80FF, opcodes80B6)]

/-- The entry of a page under the key `op`. -/
def lookupIn (op : Nat) : List (Nat × Format) → Option Format
  | [] => none
  | (k, f) :: rest => if k == op then some f else lookupIn op rest

/-- The entry under the key `op` in the first page whose last opcode is not below it. -/
def lookupPages (op : Nat) : List (Nat × List (Nat × Format)) → Option Format
  | [] => none
  | (last, page) :: rest => if op ≤ last then lookupIn op page else lookupPages op rest

/-- The format of an opcode; `none` for the values the CPU does not recognise (R80). -/
def lookupOpcode (op : Word) : Option Format := lookupPages op.toNat opcodePages

/-! ## The decoder -/

/-- Why bytes are no instruction. -/
inductive DecodeError where
  /-- The 16-bit value is not one of the 392 opcodes; the machine answers with NMI cause 1 (R80), which is no fault of
  the model. -/
  | unrecognised (op : Word)
  /-- Fewer bytes than the instruction has. The machine never meets it, since it always fetches four bytes; safe. -/
  | truncated
  deriving DecidableEq, Repr

/-- The instruction at the head of a list of bytes, with the bytes after it (R70-R76). -/
def decode : List Byte → Except DecodeError (Instr × List Byte)
  | hi :: lo :: rest =>
    match lookupOpcode (joinBytes hi lo), rest with
    | none, _ => .error (.unrecognised (joinBytes hi lo))
    | some (.f0 i), rest => .ok (i, rest)
    | some (.f1 mk), a :: rest => .ok (mk a, rest)
    | some (.f2 mk), a :: b :: rest => .ok (mk (joinBytes a b), rest)
    | some _, _ => .error .truncated
  | _ => .error .truncated

/-! ## The encoder (R70-R76, R83) -/

/-- F0 (R73): the opcode, high byte first. -/
def encodeF0 (op : Word) : List Byte := [hiByte op, loByte op]

/-- F1 (R74): the opcode and one argument byte. -/
def encodeF1 (op : Word) (arg : Byte) : List Byte := [hiByte op, loByte op, arg]

/-- F2 (R75): the opcode and a big-endian argument word. -/
def encodeF2 (op arg : Word) : List Byte := [hiByte op, loByte op, hiByte arg, loByte arg]

/-- The bytes of an instruction, the first at the lowest address. -/
def encode : Instr → List Byte
  | .nop .op0000 => encodeF0 0x0000
  | .kill .op0001 => encodeF0 0x0001
  | .aret => encodeF0 0x0002
  | .cpuid => encodeF0 0x0003
  | .ina => encodeF0 0x0004
  | .inb => encodeF0 0x0005
  | .ini => encodeF0 0x0006
  | .inj => encodeF0 0x0007
  | .dea => encodeF0 0x0008
  | .deb => encodeF0 0x0009
  | .dei => encodeF0 0x000A
  | .dej => encodeF0 0x000B
  | .msb .accumulator => encodeF0 0x000C
  | .msb .base => encodeF0 0x000D
  | .sei => encodeF0 0x000E
  | .sed => encodeF0 0x000F
  | .clc => encodeF0 0x0010
  | .clo => encodeF0 0x0011
  | .cld => encodeF0 0x0012
  | .cli => encodeF0 0x0013
  | .ada .other => encodeF0 0x0014
  | .adb .other => encodeF0 0x0015
  | .ana .other => encodeF0 0x0016
  | .anb .other => encodeF0 0x0017
  | .ana .index => encodeF0 0x0018
  | .anb .index => encodeF0 0x0019
  | .cmah .other => encodeF0 0x001A
  | .cmbh .other => encodeF0 0x001B
  | .cmpa .other => encodeF0 0x001C
  | .cmpb .other => encodeF0 0x001D
  | .cmpa .index => encodeF0 0x001E
  | .cmpb .index => encodeF0 0x001F
  | .cmpi .accumulator => encodeF0 0x0020
  | .jcc .relJ => encodeF0 0x0021
  | .joc .relJ => encodeF0 0x0022
  | .jne .relJ => encodeF0 0x0023
  | .jnc .relJ => encodeF0 0x0024
  | .jcs .relJ => encodeF0 0x0025
  | .jos .relJ => encodeF0 0x0026
  | .jeq .relJ => encodeF0 0x0027
  | .jns .relJ => encodeF0 0x0028
  | .nop .op0029 => encodeF0 0x0029
  | .nop .op002A => encodeF0 0x002A
  | .nop .op002B => encodeF0 0x002B
  | .nop .op002C => encodeF0 0x002C
  | .tbah => encodeF0 0x002D
  | .tabh => encodeF0 0x002E
  | .nop .op002F => encodeF0 0x002F
  | .nop .op0030 => encodeF0 0x0030
  | .tahj => encodeF0 0x0031
  | .tbhj => encodeF0 0x0032
  | .nop .op0033 => encodeF0 0x0033
  | .nop .op0034 => encodeF0 0x0034
  | .nop .op0035 => encodeF0 0x0035
  | .ora .other => encodeF0 0x0036
  | .orb .other => encodeF0 0x0037
  | .ora .index => encodeF0 0x0038
  | .orb .index => encodeF0 0x0039
  | .psh .accumulator => encodeF0 0x003A
  | .psh .base => encodeF0 0x003B
  | .psh .ah => encodeF0 0x003C
  | .psh .al => encodeF0 0x003D
  | .read .accumulator => encodeF0 0x003E
  | .read .base => encodeF0 0x003F
  | .shl .accumulator => encodeF0 0x0040
  | .shl .base => encodeF0 0x0041
  | .shl .index => encodeF0 0x0042
  | .shr .accumulator => encodeF0 0x0043
  | .shr .base => encodeF0 0x0044
  | .shr .index => encodeF0 0x0045
  | .sua .other => encodeF0 0x0046
  | .sub .other => encodeF0 0x0047
  | .sua .index => encodeF0 0x0048
  | .sub .index => encodeF0 0x0049
  | .tab => encodeF0 0x004A
  | .tai => encodeF0 0x004B
  | .tba => encodeF0 0x004C
  | .tbi => encodeF0 0x004D
  | .tisp => encodeF0 0x004E
  | .tspb => encodeF0 0x004F
  | .wrti .ah => encodeF0 0x0050
  | .wrti .bh => encodeF0 0x0051
  | .xora .other => encodeF0 0x0052
  | .xorb .other => encodeF0 0x0053
  | .xora .index => encodeF0 0x0054
  | .xorb .index => encodeF0 0x0055
  | .jmp .accumulator => encodeF0 0x0056
  | .jmp .base => encodeF0 0x0057
  | .jmp .index => encodeF0 0x0058
  | .tbal => encodeF0 0x0059
  | .tabl => encodeF0 0x005A
  | .tadr => encodeF0 0x005B
  | .taimh => encodeF0 0x005C
  | .taiml => encodeF0 0x005D
  | .taemh => encodeF0 0x005F
  | .taeml => encodeF0 0x0060
  | .cls => encodeF0 0x0061
  | .ses => encodeF0 0x0062
  | .jmp .relJ => encodeF0 0x0063
  | .psh .frame => encodeF0 0x0064
  | .pop .accumulator => encodeF0 0x0065
  | .pop .base => encodeF0 0x0066
  | .pop .ah => encodeF0 0x0067
  | .pop .al => encodeF0 0x0068
  | .nop .op0069 => encodeF0 0x0069
  | .nop .op3FFC => encodeF0 0x3FFC
  | .kill .op3FFD => encodeF0 0x3FFD
  | .rest => encodeF0 0x3FFE
  | .sys => encodeF0 0x3FFF
  | .nop (.op4000 arg) => encodeF1 0x4000 arg
  | .psh (.imm8 arg) => encodeF1 0x4001 arg
  | .psh (.mem (.zpX arg)) => encodeF1 0x4002 arg
  | .psh (.mem (.zp arg)) => encodeF1 0x4003 arg
  | .ada (.imm8 arg) => encodeF1 0x4004 arg
  | .ada (.mem (.zp arg)) => encodeF1 0x4005 arg
  | .ada (.mem (.zpX arg)) => encodeF1 0x4006 arg
  | .adb (.imm8 arg) => encodeF1 0x4007 arg
  | .adb (.mem (.zp arg)) => encodeF1 0x4008 arg
  | .adb (.mem (.zpX arg)) => encodeF1 0x4009 arg
  | .ana (.imm8 arg) => encodeF1 0x400A arg
  | .ana (.mem (.zp arg)) => encodeF1 0x400B arg
  | .ana (.mem (.zpX arg)) => encodeF1 0x400C arg
  | .anb (.imm8 arg) => encodeF1 0x400D arg
  | .anb (.mem (.zp arg)) => encodeF1 0x400E arg
  | .anb (.mem (.zpX arg)) => encodeF1 0x400F arg
  | .jcc (.rel arg) => encodeF1 0x4010 arg
  | .joc (.rel arg) => encodeF1 0x4011 arg
  | .jne (.rel arg) => encodeF1 0x4012 arg
  | .jnc (.rel arg) => encodeF1 0x4013 arg
  | .jcs (.rel arg) => encodeF1 0x4014 arg
  | .jos (.rel arg) => encodeF1 0x4015 arg
  | .jeq (.rel arg) => encodeF1 0x4016 arg
  | .jns (.rel arg) => encodeF1 0x4017 arg
  | .ldah (.imm arg) => encodeF1 0x4018 arg
  | .ldal (.imm arg) => encodeF1 0x4019 arg
  | .ldbh (.imm arg) => encodeF1 0x401A arg
  | .ldbl (.imm arg) => encodeF1 0x401B arg
  | .ldj (.imm arg) => encodeF1 0x401C arg
  | .ora (.imm8 arg) => encodeF1 0x401D arg
  | .ora (.mem (.zp arg)) => encodeF1 0x401E arg
  | .ora (.mem (.zpX arg)) => encodeF1 0x401F arg
  | .orb (.imm8 arg) => encodeF1 0x4020 arg
  | .orb (.mem (.zp arg)) => encodeF1 0x4021 arg
  | .orb (.mem (.zpX arg)) => encodeF1 0x4022 arg
  | .nop (.op4023 arg) => encodeF1 0x4023 arg
  | .read (.zp arg) => encodeF1 0x4024 arg
  | .read (.zpX arg) => encodeF1 0x4025 arg
  | .sta (.zp arg) => encodeF1 0x4026 arg
  | .sta (.zpX arg) => encodeF1 0x4027 arg
  | .stah (.zp arg) => encodeF1 0x4028 arg
  | .stah (.zpX arg) => encodeF1 0x4029 arg
  | .stb (.zp arg) => encodeF1 0x402A arg
  | .stb (.zpX arg) => encodeF1 0x402B arg
  | .stbh (.zp arg) => encodeF1 0x402C arg
  | .stbh (.zpX arg) => encodeF1 0x402D arg
  | .sti (.zp arg) => encodeF1 0x402E arg
  | .stj (.zp arg) => encodeF1 0x402F arg
  | .sua (.imm8 arg) => encodeF1 0x4030 arg
  | .sua (.mem (.zp arg)) => encodeF1 0x4031 arg
  | .sua (.mem (.zpX arg)) => encodeF1 0x4032 arg
  | .sub (.imm8 arg) => encodeF1 0x4033 arg
  | .sub (.mem (.zp arg)) => encodeF1 0x4034 arg
  | .sub (.mem (.zpX arg)) => encodeF1 0x4035 arg
  | .wrti (.imm8 arg) => encodeF1 0x4036 arg
  | .wrti (.mem (.zp arg)) => encodeF1 0x4037 arg
  | .nop (.op4038 arg) => encodeF1 0x4038 arg
  | .xora (.imm8 arg) => encodeF1 0x4039 arg
  | .xora (.mem (.zp arg)) => encodeF1 0x403A arg
  | .xora (.mem (.zpX arg)) => encodeF1 0x403B arg
  | .xorb (.imm8 arg) => encodeF1 0x403C arg
  | .xorb (.mem (.zp arg)) => encodeF1 0x403D arg
  | .xorb (.mem (.zpX arg)) => encodeF1 0x403E arg
  | .cmah (.imm8 arg) => encodeF1 0x403F arg
  | .cmah (.mem (.zp arg)) => encodeF1 0x4040 arg
  | .cmah (.mem (.zpX arg)) => encodeF1 0x4041 arg
  | .cmbh (.imm8 arg) => encodeF1 0x4042 arg
  | .cmbh (.mem (.zp arg)) => encodeF1 0x4043 arg
  | .cmbh (.mem (.zpX arg)) => encodeF1 0x4044 arg
  | .cmpa (.mem (.zp arg)) => encodeF1 0x4045 arg
  | .cmpa (.mem (.zpX arg)) => encodeF1 0x4046 arg
  | .cmpb (.mem (.zp arg)) => encodeF1 0x4047 arg
  | .cmpb (.mem (.zpX arg)) => encodeF1 0x4048 arg
  | .cmpi (.mem (.zp arg)) => encodeF1 0x4049 arg
  | .ldj (.mem (.zp arg)) => encodeF1 0x404A arg
  | .limh (.mem (.zp arg)) => encodeF1 0x404B arg
  | .limh (.mem (.zpX arg)) => encodeF1 0x404C arg
  | .liml (.mem (.zp arg)) => encodeF1 0x404D arg
  | .liml (.mem (.zpX arg)) => encodeF1 0x404E arg
  | .simh (.zp arg) => encodeF1 0x404F arg
  | .simh (.zpX arg) => encodeF1 0x4050 arg
  | .siml (.zp arg) => encodeF1 0x4051 arg
  | .siml (.zpX arg) => encodeF1 0x4052 arg
  | .ldsr (.imm arg) => encodeF1 0x4053 arg
  | .lemh (.mem (.zp arg)) => encodeF1 0x4054 arg
  | .lemh (.mem (.zpX arg)) => encodeF1 0x4055 arg
  | .leml (.mem (.zp arg)) => encodeF1 0x4056 arg
  | .leml (.mem (.zpX arg)) => encodeF1 0x4057 arg
  | .semh (.zp arg) => encodeF1 0x4058 arg
  | .semh (.zpX arg) => encodeF1 0x4059 arg
  | .seml (.zp arg) => encodeF1 0x405A arg
  | .seml (.zpX arg) => encodeF1 0x405B arg
  | .jmp (.rel arg) => encodeF1 0x405C arg
  | .nop (.op405D arg) => encodeF1 0x405D arg
  | .nop (.op7FFF arg) => encodeF1 0x7FFF arg
  | .nop (.op8000 arg) => encodeF2 0x8000 arg
  | .psh (.mem (.abs arg)) => encodeF2 0x8001 arg
  | .psh (.mem (.ind arg)) => encodeF2 0x8002 arg
  | .psh (.mem (.indX arg)) => encodeF2 0x8003 arg
  | .ada (.mem (.abs arg)) => encodeF2 0x8004 arg
  | .ada (.mem (.absX arg)) => encodeF2 0x8005 arg
  | .ada (.mem (.ind arg)) => encodeF2 0x8006 arg
  | .ada (.mem (.indX arg)) => encodeF2 0x8007 arg
  | .adb (.mem (.abs arg)) => encodeF2 0x8008 arg
  | .adb (.mem (.absX arg)) => encodeF2 0x8009 arg
  | .adb (.mem (.ind arg)) => encodeF2 0x800A arg
  | .adb (.mem (.indX arg)) => encodeF2 0x800B arg
  | .ana (.mem (.abs arg)) => encodeF2 0x800C arg
  | .ana (.mem (.absX arg)) => encodeF2 0x800D arg
  | .ana (.mem (.ind arg)) => encodeF2 0x800E arg
  | .ana (.mem (.indX arg)) => encodeF2 0x800F arg
  | .anb (.mem (.abs arg)) => encodeF2 0x8010 arg
  | .anb (.mem (.absX arg)) => encodeF2 0x8011 arg
  | .anb (.mem (.ind arg)) => encodeF2 0x8012 arg
  | .anb (.mem (.indX arg)) => encodeF2 0x8013 arg
  | .cmah (.mem (.abs arg)) => encodeF2 0x8014 arg
  | .cmah (.mem (.absX arg)) => encodeF2 0x8015 arg
  | .cmah (.mem (.ind arg)) => encodeF2 0x8016 arg
  | .cmah (.mem (.indX arg)) => encodeF2 0x8017 arg
  | .cmbh (.mem (.abs arg)) => encodeF2 0x8018 arg
  | .cmbh (.mem (.absX arg)) => encodeF2 0x8019 arg
  | .cmbh (.mem (.ind arg)) => encodeF2 0x801A arg
  | .cmbh (.mem (.indX arg)) => encodeF2 0x801B arg
  | .cmpa (.mem (.abs arg)) => encodeF2 0x801C arg
  | .cmpa (.mem (.absX arg)) => encodeF2 0x801D arg
  | .cmpa (.mem (.ind arg)) => encodeF2 0x801E arg
  | .cmpa (.mem (.indX arg)) => encodeF2 0x801F arg
  | .cmpb (.mem (.abs arg)) => encodeF2 0x8020 arg
  | .cmpb (.mem (.absX arg)) => encodeF2 0x8021 arg
  | .cmpb (.mem (.ind arg)) => encodeF2 0x8022 arg
  | .cmpb (.mem (.indX arg)) => encodeF2 0x8023 arg
  | .cmpa (.imm16 arg) => encodeF2 0x8024 arg
  | .cmpb (.imm16 arg) => encodeF2 0x8025 arg
  | .cmpi (.imm16 arg) => encodeF2 0x8026 arg
  | .cmpi (.mem (.abs arg)) => encodeF2 0x8027 arg
  | .cmpi (.mem (.ind arg)) => encodeF2 0x8028 arg
  | .jcc (.abs arg) => encodeF2 0x8029 arg
  | .joc (.abs arg) => encodeF2 0x802A arg
  | .jne (.abs arg) => encodeF2 0x802B arg
  | .jnc (.abs arg) => encodeF2 0x802C arg
  | .jcs (.abs arg) => encodeF2 0x802D arg
  | .jos (.abs arg) => encodeF2 0x802E arg
  | .jeq (.abs arg) => encodeF2 0x802F arg
  | .jns (.abs arg) => encodeF2 0x8030 arg
  | .jmp (.abs arg) => encodeF2 0x8031 arg
  | .jmp (.ind arg) => encodeF2 0x8032 arg
  | .ada (.imm16 arg) => encodeF2 0x8033 arg
  | .adb (.imm16 arg) => encodeF2 0x8034 arg
  | .ana (.imm16 arg) => encodeF2 0x8035 arg
  | .anb (.imm16 arg) => encodeF2 0x8036 arg
  | .lda (.mem (.abs arg)) => encodeF2 0x8037 arg
  | .lda (.mem (.absX arg)) => encodeF2 0x8038 arg
  | .lda (.mem (.ind arg)) => encodeF2 0x8039 arg
  | .lda (.mem (.indX arg)) => encodeF2 0x803A arg
  | .ldah (.mem (.abs arg)) => encodeF2 0x803B arg
  | .ldah (.mem (.absX arg)) => encodeF2 0x803C arg
  | .ldah (.mem (.ind arg)) => encodeF2 0x803D arg
  | .ldah (.mem (.indX arg)) => encodeF2 0x803E arg
  | .ldal (.mem (.abs arg)) => encodeF2 0x803F arg
  | .ldal (.mem (.absX arg)) => encodeF2 0x8040 arg
  | .ldal (.mem (.ind arg)) => encodeF2 0x8041 arg
  | .ldal (.mem (.indX arg)) => encodeF2 0x8042 arg
  | .ldb (.mem (.abs arg)) => encodeF2 0x8043 arg
  | .ldb (.mem (.absX arg)) => encodeF2 0x8044 arg
  | .ldb (.mem (.ind arg)) => encodeF2 0x8045 arg
  | .ldb (.mem (.indX arg)) => encodeF2 0x8046 arg
  | .ldbh (.mem (.abs arg)) => encodeF2 0x8047 arg
  | .ldbh (.mem (.absX arg)) => encodeF2 0x8048 arg
  | .ldbh (.mem (.ind arg)) => encodeF2 0x8049 arg
  | .ldbh (.mem (.indX arg)) => encodeF2 0x804A arg
  | .ldbl (.mem (.abs arg)) => encodeF2 0x804B arg
  | .ldbl (.mem (.absX arg)) => encodeF2 0x804C arg
  | .ldbl (.mem (.ind arg)) => encodeF2 0x804D arg
  | .ldbl (.mem (.indX arg)) => encodeF2 0x804E arg
  | .ldi (.mem (.abs arg)) => encodeF2 0x804F arg
  | .ldi (.mem (.ind arg)) => encodeF2 0x8050 arg
  | .ldj (.mem (.abs arg)) => encodeF2 0x8051 arg
  | .ldj (.mem (.ind arg)) => encodeF2 0x8052 arg
  | .lda (.imm arg) => encodeF2 0x8053 arg
  | .ldb (.imm arg) => encodeF2 0x8054 arg
  | .ldi (.imm arg) => encodeF2 0x8055 arg
  | .ldsp (.mem (.abs arg)) => encodeF2 0x8056 arg
  | .ldsp (.mem (.ind arg)) => encodeF2 0x8057 arg
  | .ldsp (.imm arg) => encodeF2 0x8058 arg
  | .ora (.mem (.abs arg)) => encodeF2 0x8059 arg
  | .ora (.mem (.absX arg)) => encodeF2 0x805A arg
  | .ora (.mem (.ind arg)) => encodeF2 0x805B arg
  | .ora (.mem (.indX arg)) => encodeF2 0x805C arg
  | .orb (.mem (.abs arg)) => encodeF2 0x805D arg
  | .orb (.mem (.absX arg)) => encodeF2 0x805E arg
  | .orb (.mem (.ind arg)) => encodeF2 0x805F arg
  | .orb (.mem (.indX arg)) => encodeF2 0x8060 arg
  | .ora (.imm16 arg) => encodeF2 0x8061 arg
  | .orb (.imm16 arg) => encodeF2 0x8062 arg
  | .read (.abs arg) => encodeF2 0x8063 arg
  | .read (.absX arg) => encodeF2 0x8064 arg
  | .sta (.abs arg) => encodeF2 0x8065 arg
  | .sta (.absX arg) => encodeF2 0x8066 arg
  | .sta (.ind arg) => encodeF2 0x8067 arg
  | .sta (.indX arg) => encodeF2 0x8068 arg
  | .stah (.abs arg) => encodeF2 0x8069 arg
  | .stah (.absX arg) => encodeF2 0x806A arg
  | .stah (.ind arg) => encodeF2 0x806B arg
  | .stah (.indX arg) => encodeF2 0x806C arg
  | .stb (.abs arg) => encodeF2 0x806D arg
  | .stb (.absX arg) => encodeF2 0x806E arg
  | .stb (.ind arg) => encodeF2 0x806F arg
  | .stb (.indX arg) => encodeF2 0x8070 arg
  | .stbh (.abs arg) => encodeF2 0x8071 arg
  | .stbh (.absX arg) => encodeF2 0x8072 arg
  | .stbh (.ind arg) => encodeF2 0x8073 arg
  | .stbh (.indX arg) => encodeF2 0x8074 arg
  | .sti (.abs arg) => encodeF2 0x8075 arg
  | .nop (.op8076 arg) => encodeF2 0x8076 arg
  | .sti (.ind arg) => encodeF2 0x8077 arg
  | .nop (.op8078 arg) => encodeF2 0x8078 arg
  | .stj (.abs arg) => encodeF2 0x8079 arg
  | .stj (.absX arg) => encodeF2 0x807A arg
  | .stj (.ind arg) => encodeF2 0x807B arg
  | .stj (.indX arg) => encodeF2 0x807C arg
  | .sua (.mem (.abs arg)) => encodeF2 0x807D arg
  | .sua (.mem (.absX arg)) => encodeF2 0x807E arg
  | .sua (.mem (.ind arg)) => encodeF2 0x807F arg
  | .sua (.mem (.indX arg)) => encodeF2 0x8080 arg
  | .sub (.mem (.abs arg)) => encodeF2 0x8081 arg
  | .sub (.mem (.absX arg)) => encodeF2 0x8082 arg
  | .sub (.mem (.ind arg)) => encodeF2 0x8083 arg
  | .sub (.mem (.indX arg)) => encodeF2 0x8084 arg
  | .wrte (.abs arg) => encodeF2 0x8085 arg
  | .kill (.op8086 arg) => encodeF2 0x8086 arg
  | .wrte (.absX arg) => encodeF2 0x8087 arg
  | .wrti (.mem (.abs arg)) => encodeF2 0x8088 arg
  | .wrti (.mem (.ind arg)) => encodeF2 0x8089 arg
  | .lddr (.mem (.abs arg)) => encodeF2 0x808A arg
  | .lddr (.mem (.ind arg)) => encodeF2 0x808B arg
  | .lddr (.imm arg) => encodeF2 0x808C arg
  | .limh (.mem (.abs arg)) => encodeF2 0x808D arg
  | .limh (.mem (.ind arg)) => encodeF2 0x808E arg
  | .limh (.imm arg) => encodeF2 0x808F arg
  | .liml (.mem (.abs arg)) => encodeF2 0x8090 arg
  | .liml (.mem (.ind arg)) => encodeF2 0x8091 arg
  | .liml (.imm arg) => encodeF2 0x8092 arg
  | .simh (.abs arg) => encodeF2 0x8093 arg
  | .simh (.absX arg) => encodeF2 0x8094 arg
  | .simh (.ind arg) => encodeF2 0x8095 arg
  | .simh (.indX arg) => encodeF2 0x8096 arg
  | .siml (.abs arg) => encodeF2 0x8097 arg
  | .siml (.absX arg) => encodeF2 0x8098 arg
  | .siml (.ind arg) => encodeF2 0x8099 arg
  | .siml (.indX arg) => encodeF2 0x809A arg
  | .sua (.imm16 arg) => encodeF2 0x809B arg
  | .sub (.imm16 arg) => encodeF2 0x809C arg
  | .xora (.mem (.abs arg)) => encodeF2 0x809D arg
  | .xora (.mem (.absX arg)) => encodeF2 0x809E arg
  | .xora (.mem (.ind arg)) => encodeF2 0x809F arg
  | .xora (.mem (.indX arg)) => encodeF2 0x80A0 arg
  | .xorb (.mem (.abs arg)) => encodeF2 0x80A1 arg
  | .xorb (.mem (.absX arg)) => encodeF2 0x80A2 arg
  | .xorb (.mem (.ind arg)) => encodeF2 0x80A3 arg
  | .xorb (.mem (.indX arg)) => encodeF2 0x80A4 arg
  | .xora (.imm16 arg) => encodeF2 0x80A5 arg
  | .xorb (.imm16 arg) => encodeF2 0x80A6 arg
  | .stpc arg => encodeF2 0x80A7 arg
  | .stsr arg => encodeF2 0x80A8 arg
  | .ldsr (.mem (.abs arg)) => encodeF2 0x80A9 arg
  | .ldsr (.mem (.ind arg)) => encodeF2 0x80B0 arg
  | .lemh (.mem (.abs arg)) => encodeF2 0x80B1 arg
  | .lemh (.mem (.ind arg)) => encodeF2 0x80B2 arg
  | .lemh (.imm arg) => encodeF2 0x80B3 arg
  | .leml (.mem (.abs arg)) => encodeF2 0x80B4 arg
  | .leml (.mem (.ind arg)) => encodeF2 0x80B5 arg
  | .leml (.imm arg) => encodeF2 0x80B6 arg
  | .semh (.abs arg) => encodeF2 0x80B7 arg
  | .semh (.absX arg) => encodeF2 0x80B8 arg
  | .semh (.ind arg) => encodeF2 0x80B9 arg
  | .semh (.indX arg) => encodeF2 0x80BA arg
  | .seml (.abs arg) => encodeF2 0x80BB arg
  | .seml (.absX arg) => encodeF2 0x80BC arg
  | .seml (.ind arg) => encodeF2 0x80BD arg
  | .seml (.indX arg) => encodeF2 0x80BE arg
  | .nop (.op80BF arg) => encodeF2 0x80BF arg
  | .nop (.op80FE arg) => encodeF2 0x80FE arg
  | .ret => encodeF0 0x80FF

/-- An instruction's encoding as an opcode and its argument bytes. -/
def Instr.raw (i : Instr) : RawInstr :=
  match encode i with
  | hi :: lo :: args => ⟨joinBytes hi lo, args⟩
  | _ => ⟨0, []⟩

/-- `len`: the length of an instruction in bytes (R71). -/
def Instr.length (i : Instr) : Nat := (encode i).length

/-! ## The table's numbering of bits -/

/-- The four bytes at the fetch address for an instruction whose bits are `w` in the table's numbering: bits 15..0 are
the opcode, stored big endian; the bits from 16 on are the argument, one byte when the row has at most 24 bits and a
big-endian word otherwise (log 14). Bits at and above `nbits` are 0. -/
def tableBytes (nbits w : Nat) : List Byte :=
  let v := w % 2 ^ nbits
  let op := BitVec.ofNat 16 v
  let arg := v / 0x10000
  let argBytes : List Byte :=
    if nbits ≤ 24 then [BitVec.ofNat 8 arg, 0]
    else [hiByte (BitVec.ofNat 16 arg), loByte (BitVec.ofNat 16 arg)]
  hiByte op :: loByte op :: argBytes

/-- The instruction the decoder reads from an instruction whose bits are `w`, numbered as spec/opcode_table.json numbers
them; `none` where it refuses. -/
def decodeTableWord (nbits w : Nat) : Option Instr :=
  match decode (tableBytes nbits w) with
  | .ok (i, _) => some i
  | .error _ => none

end Sys2Proof
end

