-- ==== Sys2Proof/Machine/Flags.lean ====
section
/-! DEFINITION. SR as a byte, and every computation of flags the spec gives: addition and subtraction (R100, R101),
results (R35, R102, R120, R140), shifts (R130), comparison (R210). Widths are 8 and 16 bits; the flags are taken at
the width of the value written (R35). -/

namespace Sys2Proof.Machine

/-! ## SR as a byte (R17, R22, R23) -/

/-- The byte that `STSR`, `PSH` and interrupt entry store: N O I_ D S 1 Z C, bit 2 always 1. -/
def Status.toByte (f : Status) : Byte :=
  BitVec.ofBool f.n ++ BitVec.ofBool f.o ++ BitVec.ofBool f.i ++ BitVec.ofBool f.d ++
    BitVec.ofBool f.s ++ 1#1 ++ BitVec.ofBool f.z ++ BitVec.ofBool f.c

/-- The flags of a byte; its bit 2 is ignored. -/
def Status.ofByte (v : Byte) : Status where
  n := v.getLsbD 7
  o := v.getLsbD 6
  i := v.getLsbD 5
  d := v.getLsbD 4
  s := v.getLsbD 3
  z := v.getLsbD 1
  c := v.getLsbD 0

/-- A byte loaded into SR by `LDSR` or `RET` (R150, R202): every flag from the byte, but S stays 0 when it is 0. -/
def Status.load (f : Status) (v : Byte) : Status :=
  if f.s then Status.ofByte v else { Status.ofByte v with s := false }

/-- SR after interrupt entry, 0x2C: I_ 1, S 1, everything else 0 (R310). -/
def Status.entry : Status where
  n := false
  o := false
  i := true
  d := false
  s := true
  z := false
  c := false

/-! ## Results -/

variable {w : Nat}

/-- `setNZ_n(v)` (R35). -/
def Status.setNZ (f : Status) (v : BitVec w) : Status :=
  { f with n := v.msb, z := v == 0 }

/-- An exact result that no signed number of `w` bits is (R100, R101). -/
def outOfSigned (w : Nat) (t : Int) : Bool :=
  decide (t < -((2 ^ (w - 1) : Nat) : Int)) || decide (t > ((2 ^ (w - 1) : Nat) : Int) - 1)

/-- The flags of `Add_n(x, y)` (R100): N and Z of the stored result, C of the unsigned sum, O of the signed sum. -/
def Status.add (f : Status) (x y : BitVec w) : Status :=
  { f with
    n := (x + y).msb
    o := outOfSigned w (x.toInt + y.toInt)
    z := x + y == 0
    c := decide (x.toNat + y.toNat > 2 ^ w - 1) }

/-- C after a subtraction under a polarity (R101); `d` is the exact difference of the unsigned values. -/
def subCarry (p : SubCarryPolarity) (d : Int) : Bool :=
  match p with
  | .borrow => decide (d < 0)
  | .noBorrow => decide (d ≥ 0)

/-- The flags of `Sub_n(x, y)` (R101). -/
def Status.sub (f : Status) (p : SubCarryPolarity) (x y : BitVec w) : Status :=
  { f with
    n := (x - y).msb
    o := outOfSigned w (x.toInt - y.toInt)
    z := x - y == 0
    c := subCarry p ((x.toNat : Int) - (y.toNat : Int)) }

/-- The flags of `Cmp_n(x, y)` (R210): the unsigned order in C, equality in Z, the sign bit of the difference in N. -/
def Status.cmp (f : Status) (x y : BitVec w) : Status :=
  { f with
    n := (x - y).msb
    z := x == y
    c := decide (x.toNat ≥ y.toNat) }

/-- The flags of `SHL` (R131): the old top bit in C, Z of the result. -/
def Status.shl (f : Status) (x : BitVec w) : Status :=
  { f with z := x <<< 1 == 0, c := x.msb }

/-- The flags of `SHR` (R132): the old bit 0 in C, Z of the result. -/
def Status.shr (f : Status) (x : BitVec w) : Status :=
  { f with z := x >>> 1 == 0, c := x.getLsbD 0 }

end Sys2Proof.Machine
end

