-- ==== Sys2Proof/Machine/Ops.lean ====
section
/-! DEFINITION. The named operations over the state: memory cells, registers, the range checks, taking an interrupt,
restart, the stack and the IO space. Meanings are written over these. An operation that can end the instruction by an
interrupt takes the rest of the instruction as its continuation, as `raise` does in the spec's pseudocode
(spec/00_scope.md R7). -/

namespace Sys2Proof.Machine

/-- What an instruction or a step answers. -/
abbrev Out := Host.Outcome State Fault Refusal

/-! ## Memory as a canonical list of cells (R40, R43) -/

/-- The byte at an address; `Config.unlistedByte` where no cell is listed. -/
def Memory.read (m : Memory) (a : Nat) : Byte :=
  match m with
  | [] => Config.unlistedByte
  | (k, v) :: rest => if k == a then v else Memory.read rest a

/-- A cell put in front of a list whose addresses are all higher; left out when it holds the unlisted byte. -/
def Memory.cons (a : Nat) (v : Byte) (m : Memory) : Memory :=
  if v == Config.unlistedByte then m else (a, v) :: m

/-- The byte at an address replaced, keeping the canonical form. -/
def Memory.write (m : Memory) (a : Nat) (v : Byte) : Memory :=
  match m with
  | [] => Memory.cons a v []
  | (k, x) :: rest =>
    if a < k then Memory.cons a v ((k, x) :: rest)
    else if a == k then Memory.cons a v rest
    else (k, x) :: Memory.write rest a v

/-- The canonical form above a lower bound: addresses rising from `lo`, below 65536, no cell holding the unlisted byte. -/
def Memory.wfFrom (lo : Nat) (m : Memory) : Bool :=
  match m with
  | [] => true
  | (k, v) :: rest => lo ≤ k && k < 0x10000 && v != Config.unlistedByte && Memory.wfFrom (k + 1) rest

/-- The canonical form: addresses strictly rising and inside the address space, no cell equal to what an unlisted address
reads as. -/
def Memory.wf (m : Memory) : Bool := Memory.wfFrom 0 m

/-! ## The memory primitives (R42, R43, R45) -/

/-- The ROM range 0xFE00-0xFFFF (R46). -/
def inRom (a : Word) : Bool := 0xFE00 ≤ a.toNat

/-- `M[a]`. -/
def State.readCell (s : State) (a : Word) : Byte := s.mem.read a.toNat

/-- `W(x, b)` of R43: a store to the ROM has no effect. -/
def State.writeCell (s : State) (a : Word) (v : Byte) : State :=
  if inRom a then s else { s with mem := s.mem.write a.toNat v }

/-- `MemRead(a, 2)`: the high byte at `a`, the low byte at `a + 1` modulo 2^16. -/
def State.readWord (s : State) (a : Word) : Word :=
  joinBytes (s.readCell a) (s.readCell (a + 1))

/-- `MemWrite(a, 2, v)`. -/
def State.writeWord (s : State) (a v : Word) : State :=
  (s.writeCell a (hiByte v)).writeCell (a + 1) (loByte v)

/-- Whether one of the `n` cells from `a` is in the ROM. -/
def touchesRom (a : Word) (n : Nat) : Bool :=
  (List.range n).any fun k => inRom (a + BitVec.ofNat 16 k)

/-- The parameter `ROM_WRITE = fault` (spec/93_implementation_defined.md U9): a store of `n` bytes at `a` that touches the
ROM stops the model; under `ignore` every store goes on (log 7). -/
def romGuard (a : Word) (n : Nat) (s : State) (rest : Out) : Out :=
  if s.cfg.romWrite == .fault && touchesRom a n then .fault .romWrite else rest

/-! ## Registers (R10-R16, R26-R28, R32) -/

/-- The registers that move words (R66). -/
inductive Reg16 where
  | a
  | b
  | i
  | sp
  | dr
  | imli
  | imhi
  | emli
  | emhi
  deriving DecidableEq, Repr

/-- The half registers and J, which move bytes (R66). -/
inductive Reg8 where
  | ah
  | al
  | bh
  | bl
  | j
  deriving DecidableEq, Repr

/-- The value of a word register. -/
def State.get16 (s : State) : Reg16 → Word
  | .a => s.a
  | .b => s.b
  | .i => s.i
  | .sp => s.sp
  | .dr => s.dr
  | .imli => s.imli
  | .imhi => s.imhi
  | .emli => s.emli
  | .emhi => s.emhi

/-- A word register replaced. -/
def State.set16 (s : State) (r : Reg16) (v : Word) : State :=
  match r with
  | .a => { s with a := v }
  | .b => { s with b := v }
  | .i => { s with i := v }
  | .sp => { s with sp := v }
  | .dr => { s with dr := v }
  | .imli => { s with imli := v }
  | .imhi => { s with imhi := v }
  | .emli => { s with emli := v }
  | .emhi => { s with emhi := v }

/-- The value of a half register (R10, R11) or of J. -/
def State.get8 (s : State) : Reg8 → Byte
  | .ah => hiByte s.a
  | .al => loByte s.a
  | .bh => hiByte s.b
  | .bl => loByte s.b
  | .j => s.j

/-- A half register replaced, the other half kept (R10, R11); or J. -/
def State.set8 (s : State) (r : Reg8) (v : Byte) : State :=
  match r with
  | .ah => { s with a := joinBytes v (loByte s.a) }
  | .al => { s with a := joinBytes (hiByte s.a) v }
  | .bh => { s with b := joinBytes v (loByte s.b) }
  | .bl => { s with b := joinBytes (hiByte s.b) v }
  | .j => { s with j := v }

/-- SR replaced. -/
def State.withSr (s : State) (f : Status) : State := { s with sr := f }

/-- The PC replaced. -/
def State.withPc (s : State) (v : Word) : State := { s with pc := v }

/-- AR replaced (R29). -/
def State.withAr (s : State) (v : Word) : State := { s with ar := v }

/-- IR replaced (R15). -/
def State.withIr (s : State) (v : Word) : State := { s with ir := v }

/-! ## Taking an interrupt (spec/60_exceptions.md R301, R310, R313) -/

/-- The interrupts that enter through a vector, with what the entry writes into B, AH or AL. RESET is `State.restart`. -/
inductive Interrupt where
  | drInr
  | eirq (addr : Word) (data : Byte)
  | nmi (cause : Byte)
  | iaoor
  | eaoor
  | spoor
  | sys
  deriving DecidableEq, Repr

/-- The address of an interrupt's vector (R48, R301). -/
def Interrupt.vector : Interrupt → Word
  | .drInr => 0x2002
  | .eirq _ _ => 0x2004
  | .nmi _ => 0x2006
  | .sys => 0x2008
  | .iaoor => 0x200A
  | .eaoor => 0x200C
  | .spoor => 0x200E

/-- The extra registers that entry writes (R310): B and AH for an EIRQ, AL for an NMI. -/
def State.interruptData (s : State) : Interrupt → State
  | .eirq addr data => (s.set16 .b addr).set8 .ah data
  | .nmi cause => s.set8 .al cause
  | .drInr => s
  | .iaoor => s
  | .eaoor => s
  | .spoor => s
  | .sys => s

/-- The save area (R48, R310): PC at 0x2010, SR at 0x2012, A at 0x2013, B at 0x2015. -/
def State.saveContext (s : State) (savedPc : Word) : State :=
  (((s.writeWord 0x2010 savedPc).writeCell 0x2012 s.sr.toByte).writeWord 0x2013 s.a).writeWord 0x2015 s.b

/-- TAKING AN INTERRUPT (R310, R311): save PC, SR, A and B, set SR to 0x2C, write the interrupt's data, and go to the
address held in the vector. Unchecked; AR is not written. -/
def State.enter (s : State) (k : Interrupt) (savedPc : Word) : State :=
  let saved := ((s.saveContext savedPc).withSr Status.entry).interruptData k
  saved.withPc (saved.readWord k.vector)

/-- `raise K(info)` within an instruction: the PC saved is the instruction's address plus `SYNC_SAVED_PC_OFFSET` (R313,
log 6). -/
def raise (k : Interrupt) (s : State) : Out :=
  .next (s.enter k (s.pc + s.cfg.syncSavedPcOffset))

/-- RESET (R302, R350): PC, SR and the run state; nothing else, and nothing is saved. -/
def State.restart (s : State) : State :=
  { s with pc := 0xFE00, sr := Status.reset, run := .running }

/-- `RequireS()` (R321): NMI with cause 2 in user mode. -/
def requireS (s : State) (rest : Out) : Out :=
  if s.sr.s then rest else raise (.nmi 2) s

/-! ## Ending an instruction (R79) -/

/-- `pc <- (pc + len) mod 2^16`. -/
def finish (len : Nat) (s : State) : Out :=
  .next (s.withPc (s.pc + BitVec.ofNat 16 len))

/-! ## The range checks (R56, R57, R61) -/

/-- `IMLI <= a <= IMHI`, unsigned, both bounds inclusive. -/
def State.inInternal (s : State) (a : Word) : Bool :=
  s.imli.toNat ≤ a.toNat && a.toNat ≤ s.imhi.toNat

/-- `EMLI <= a <= EMHI`. -/
def State.inExternal (s : State) (a : Word) : Bool :=
  s.emli.toNat ≤ a.toNat && a.toNat ≤ s.emhi.toNat

/-- `CheckInt(a)` (R56): AR takes the address, then IAOOR-INR in user mode outside the bounds. -/
def checkInt (a : Word) (s : State) (rest : State → Out) : Out :=
  if s.sr.s || s.inInternal a then rest (s.withAr a) else raise .iaoor (s.withAr a)

/-- `CheckExt(a)` (R57): AR takes the address, then EAOOR-INR in user mode outside the bounds. -/
def checkExt (a : Word) (s : State) (rest : State → Out) : Out :=
  if s.sr.s || s.inExternal a then rest (s.withAr a) else raise .eaoor (s.withAr a)

/-- `CheckSP` (R61) for a move of SP to `sp'`: SPOOR-INR in user mode when SP before or after is outside the bounds. -/
def checkSp (sp' : Word) (s : State) (rest : Out) : Out :=
  if s.sr.s || (s.inInternal s.sp && s.inInternal sp') then rest else raise .spoor s

/-! ## The stack (R60): empty ascending, big endian -/

/-- `Push(1, v)`. -/
def State.pushByte (s : State) (v : Byte) : State :=
  (s.writeCell s.sp v).set16 .sp (s.sp + 1)

/-- `Push(2, v)`. -/
def State.pushWord (s : State) (v : Word) : State :=
  (s.writeWord s.sp v).set16 .sp (s.sp + 2)

/-- The byte that `Pop(1)` returns: the one below SP. -/
def State.topByte (s : State) : Byte := s.readCell (s.sp - 1)

/-- The word that `Pop(2)` returns: the two bytes below SP. -/
def State.topWord (s : State) : Word := s.readWord (s.sp - 2)

/-- SP moved down by `n`, the other half of `Pop(n)`; the memory is not erased. -/
def State.dropStack (s : State) (n : Nat) : State := s.set16 .sp (s.sp - BitVec.ofNat 16 n)

/-- A `PSH` form of `n` bytes (R200): the stack check, then the pushes and the advance. -/
def pushing (n len : Nat) (s : State) (push : State → State) : Out :=
  checkSp (s.sp + BitVec.ofNat 16 n) s (romGuard s.sp n s (finish len (push s)))

/-- RETURN from a routine, and from an interrupt by the sequence of R316 (R202): the two bytes on top are the PC, the one
below them SR, whose S bit counts only when S is 1. -/
def State.returnFrame (s : State) : State :=
  ((s.dropStack 3).withSr (s.sr.load (s.dropStack 2).topByte)).withPc s.topWord

/-! ## The external / IO space (R41, R65) -/

/-- The answer of the environment to a read of external address `a`: the next scripted answer, or a free value when none
is left (log 10). -/
def State.ioAnswer (s : State) (a : Word) : Byte :=
  match s.ioAnswers with
  | v :: _ => v
  | [] => Config.ioAnswer s.ioTrace.length a

/-- `IORead(a)` as an event: the answer is used up and recorded. -/
def State.recordRead (s : State) (a : Word) : State :=
  { s with ioAnswers := s.ioAnswers.tail, ioTrace := s.ioTrace ++ [.read a (s.ioAnswer a)] }

/-- `IOWrite(a, v)` as an event. -/
def State.recordWrite (s : State) (a : Word) (v : Byte) : State :=
  { s with ioTrace := s.ioTrace ++ [.write a v] }

end Sys2Proof.Machine
end

