-- ==== Sys2Proof/Machine/Operands.lean ====
section
/-! DEFINITION. Effective addresses, checked operands and stores, jump targets (spec/20_memory.md R50-R59,
spec/48_jump.md R230). -/

namespace Sys2Proof.Machine

/-- `EA(mode, arg)` (R50-R55). Sums are modulo 2^16; the zero-page index is not confined to the page; the pointer of an
indirect mode is read unchecked, and I is added after it is read. -/
def State.ea (s : State) : MemMode → Word
  | .zp arg => arg.setWidth 16
  | .zpX arg => arg.setWidth 16 + s.i
  | .abs arg => arg
  | .absX arg => arg + s.i
  | .ind arg => s.readWord arg
  | .indX arg => s.readWord arg + s.i

/-- `Operand(m, arg, 1)` (R58), handed to the rest of the instruction. -/
def operand8 (m : MemMode) (s : State) (rest : Byte → State → Out) : Out :=
  checkInt (s.ea m) s fun t => rest (t.readCell (s.ea m)) t

/-- `Operand(m, arg, 2)` (R58): only the first byte's address is checked. -/
def operand16 (m : MemMode) (s : State) (rest : Word → State → Out) : Out :=
  checkInt (s.ea m) s fun t => rest (t.readWord (s.ea m)) t

/-- `Store(m, arg, 1, v)` (R58, R180) and the advance. -/
def store8 (m : MemMode) (v : Byte) (s : State) : Out :=
  checkInt (s.ea m) s fun t => romGuard (s.ea m) 1 t (finish m.length (t.writeCell (s.ea m) v))

/-- `Store(m, arg, 2, v)` (R58, R180) and the advance. -/
def store16 (m : MemMode) (v : Word) (s : State) : Out :=
  checkInt (s.ea m) s fun t => romGuard (s.ea m) 2 t (finish m.length (t.writeWord (s.ea m) v))

/-- `sext_16(d)` (R6): an 8-bit signed displacement. -/
def signExtend16 (d : Byte) : Word := d.signExtend 16

/-- The target of a relative jump, counted from the address of the jump itself (R230). -/
def State.relTarget (s : State) (d : Byte) : Word := s.pc + signExtend16 d

/-- The target of a conditional jump (R230). -/
def State.jumpTarget (s : State) : JumpForm → Word
  | .relJ => s.relTarget s.j
  | .rel arg => s.relTarget arg
  | .abs arg => arg

/-- The length of a conditional jump. -/
def jumpLength : JumpForm → Nat
  | .relJ => 2
  | .rel _ => 3
  | .abs _ => 4

/-- The target of `JMP` (R230, R235); the pointer of the indirect form is read unchecked. -/
def State.jmpTarget (s : State) : JmpForm → Word
  | .accumulator => s.a
  | .base => s.b
  | .index => s.i
  | .relJ => s.relTarget s.j
  | .rel arg => s.relTarget arg
  | .abs arg => arg
  | .ind arg => s.readWord arg

/-- The external address of a `READ` form (R259). -/
def State.readAddress (s : State) : ReadForm → Word
  | .accumulator => s.a
  | .base => s.b
  | .zp arg => arg.setWidth 16
  | .zpX arg => arg.setWidth 16 + s.i
  | .abs arg => arg
  | .absX arg => arg + s.i

/-- The external address of a `WRTE` form (R260). -/
def State.wrteAddress (s : State) : WrteForm → Word
  | .abs arg => arg
  | .absX arg => arg + s.i

end Sys2Proof.Machine
end

