-- ==== Sys2Proof/Machine/Arithmetic.lean ====
section
/-! DEFINITION. Arithmetic (spec/40_arithmetic.md): ADA ADB SUA SUB, INA INB INI INJ, DEA DEB DEI DEJ. -/

namespace Sys2Proof.Machine

/-- `R <- Add_16(R, y)` (R100) and the advance. -/
def add16 (r : Reg16) (y : Word) (len : Nat) (s : State) : Out :=
  finish len ((s.set16 r (s.get16 r + y)).withSr (s.sr.add (s.get16 r) y))

/-- `R <- Add_8(R, y)` on a half register (R100): no carry into the other half. -/
def add8 (r : Reg8) (y : Byte) (len : Nat) (s : State) : Out :=
  finish len ((s.set8 r (s.get8 r + y)).withSr (s.sr.add (s.get8 r) y))

/-- The forms of `ADA` and `ADB` (R104, R105), with `r` the register, `low` its low half and `other` the other one. -/
def addForm (r : Reg16) (low : Reg8) (other : Word) (form : AddForm) (s : State) : Out :=
  match form with
  | .other => add16 r other 2 s
  | .imm8 arg => add8 low arg 3 s
  | .imm16 arg => add16 r arg 4 s
  | .mem m => operand16 m s fun v t => add16 r v m.length t

/-- `R <- Sub_16(R, y)` (R101) and the advance. -/
def sub16 (r : Reg16) (y : Word) (len : Nat) (s : State) : Out :=
  finish len ((s.set16 r (s.get16 r - y)).withSr (s.sr.sub s.cfg.subCarryPolarity (s.get16 r) y))

/-- `R <- Sub_8(R, y)` on a half register (R101): no borrow from the other half. -/
def sub8 (r : Reg8) (y : Byte) (len : Nat) (s : State) : Out :=
  finish len ((s.set8 r (s.get8 r - y)).withSr (s.sr.sub s.cfg.subCarryPolarity (s.get8 r) y))

/-- The forms of `SUA` and `SUB` (R114, R115). -/
def subForm (r : Reg16) (low : Reg8) (other : Word) (form : AluForm) (s : State) : Out :=
  match form with
  | .other => sub16 r other 2 s
  | .index => sub16 r s.i 2 s
  | .imm8 arg => sub8 low arg 3 s
  | .imm16 arg => sub16 r arg 4 s
  | .mem m => operand16 m s fun v t => sub16 r v m.length t

/-- An increment or decrement of a word register (R102): N and Z only. -/
def stepReg16 (r : Reg16) (v : Word) (s : State) : Out :=
  finish 2 ((s.set16 r v).withSr (s.sr.setNZ v))

/-- An increment or decrement of J (R102, R109, R113): 8 bits. -/
def stepJ (v : Byte) (s : State) : Out :=
  finish 2 ((s.set8 .j v).withSr (s.sr.setNZ v))

/-- `ADA` (R104): "A = A + operand". -/
def execAda (form : AddForm) (s : State) : Out :=
  addForm .a .al s.b form s

/-- `ADB` (R105): "B = B + operand". -/
def execAdb (form : AddForm) (s : State) : Out :=
  addForm .b .bl s.a form s

/-- `SUA` (R114): "A = A - operand". -/
def execSua (form : AluForm) (s : State) : Out :=
  subForm .a .al s.b form s

/-- `SUB` (R115): "B = B - operand". -/
def execSub (form : AluForm) (s : State) : Out :=
  subForm .b .bl s.a form s

/-- `INA` (R110): "A = A + 1", modulo 2^16. -/
def execIna (s : State) : Out :=
  stepReg16 .a (s.a + 1) s

/-- `INB` (R111): "B = B + 1", modulo 2^16. -/
def execInb (s : State) : Out :=
  stepReg16 .b (s.b + 1) s

/-- `INI` (R112): "I = I + 1", modulo 2^16. -/
def execIni (s : State) : Out :=
  stepReg16 .i (s.i + 1) s

/-- `INJ` (R113): "J = J + 1", modulo 2^8. -/
def execInj (s : State) : Out :=
  stepJ (s.j + 1) s

/-- `DEA` (R106): "A = A - 1", modulo 2^16. -/
def execDea (s : State) : Out :=
  stepReg16 .a (s.a - 1) s

/-- `DEB` (R107): "B = B - 1", modulo 2^16. -/
def execDeb (s : State) : Out :=
  stepReg16 .b (s.b - 1) s

/-- `DEI` (R108): "I = I - 1", modulo 2^16. -/
def execDei (s : State) : Out :=
  stepReg16 .i (s.i - 1) s

/-- `DEJ` (R109): "J = J - 1", modulo 2^8. -/
def execDej (s : State) : Out :=
  stepJ (s.j - 1) s

end Sys2Proof.Machine
end

