-- ==== Sys2Proof/Machine/FlagCompare.lean ====
section
/-! DEFINITION. Flag and compare instructions (spec/47_flag_compare.md). -/

namespace Sys2Proof.Machine

/-- A flag instruction (section 1 of the file): SR replaced, and the advance. -/
def putFlags (f : Status) (s : State) : Out := finish 2 (s.withSr f)

/-- `Cmp_16(x, y)` (R210) and the advance: only C, Z and N are written. -/
def compare16 (x y : Word) (len : Nat) (s : State) : Out :=
  finish len (s.withSr (s.sr.cmp x y))

/-- `Cmp_8(x, y)` (R210) and the advance. -/
def compare8 (x y : Byte) (len : Nat) (s : State) : Out :=
  finish len (s.withSr (s.sr.cmp x y))

/-- The forms of `CMAH` and `CMBH` (R220, R221). -/
def compareHigh (x other : Byte) (form : CmpHighForm) (s : State) : Out :=
  match form with
  | .other => compare8 x other 2 s
  | .imm8 arg => compare8 x arg 3 s
  | .mem m => operand8 m s fun v t => compare8 x v m.length t

/-- The forms of `CMPA` and `CMPB` (R222, R223). -/
def compareWord (x other : Word) (form : CmpForm) (s : State) : Out :=
  match form with
  | .other => compare16 x other 2 s
  | .index => compare16 x s.i 2 s
  | .imm16 arg => compare16 x arg 4 s
  | .mem m => operand16 m s fun v t => compare16 x v m.length t

/-- The forms of `CMPI` (R224): I is compared, not assigned (spec/90_conflicts.md C12). -/
def compareIndex (form : CmpIndexForm) (s : State) : Out :=
  match form with
  | .accumulator => compare16 s.i s.a 2 s
  | .imm16 arg => compare16 s.i arg 4 s
  | .mem m => operand16 m.toMem s fun v t => compare16 s.i v m.toMem.length t

/-- `ARET` (R211): "A == RET (in hex 80FF)". -/
def execAret (s : State) : Out :=
  putFlags { s.sr with z := s.a == 0x80FF } s

/-- `CLC` (R212): C <- 0. -/
def execClc (s : State) : Out :=
  putFlags { s.sr with c := false } s

/-- `*CLD` (R213): D <- 0. -/
def execCld (s : State) : Out :=
  requireS s (putFlags { s.sr with d := false } s)

/-- `*CLI` (R214): I_ <- 0. -/
def execCli (s : State) : Out :=
  requireS s (putFlags { s.sr with i := false } s)

/-- `CLO` (R215): O <- 0. -/
def execClo (s : State) : Out :=
  putFlags { s.sr with o := false } s

/-- `*CLS` (R216): S <- 0. -/
def execCls (s : State) : Out :=
  requireS s (putFlags { s.sr with s := false } s)

/-- `*SED` (R217): D <- 1. -/
def execSed (s : State) : Out :=
  requireS s (putFlags { s.sr with d := true } s)

/-- `*SEI` (R218): I_ <- 1. -/
def execSei (s : State) : Out :=
  requireS s (putFlags { s.sr with i := true } s)

/-- `*SES` (R219): S <- 1. -/
def execSes (s : State) : Out :=
  requireS s (putFlags { s.sr with s := true } s)

/-- `CMAH` (R220): "AH == operand". -/
def execCmah (form : CmpHighForm) (s : State) : Out :=
  compareHigh (s.get8 .ah) (s.get8 .bh) form s

/-- `CMBH` (R221): "BH == operand". -/
def execCmbh (form : CmpHighForm) (s : State) : Out :=
  compareHigh (s.get8 .bh) (s.get8 .ah) form s

/-- `CMPA` (R222): "A == operand". -/
def execCmpa (form : CmpForm) (s : State) : Out :=
  compareWord s.a s.b form s

/-- `CMPB` (R223): "B == operand". -/
def execCmpb (form : CmpForm) (s : State) : Out :=
  compareWord s.b s.a form s

/-- `CMPI` (R224): "I == operand". -/
def execCmpi (form : CmpIndexForm) (s : State) : Out :=
  compareIndex form s

end Sys2Proof.Machine
end

