-- ==== Sys2Proof/Machine/Jump.lean ====
section
/-! DEFINITION. Jumps (spec/48_jump.md): no flag is written, no address is checked (R231). -/

namespace Sys2Proof.Machine

/-- A conditional jump (R232-R240): to the target when the condition holds, else past the jump (R79, R230). -/
def jumpIf (cond : Bool) (form : JumpForm) (s : State) : Out :=
  if cond then .next (s.withPc (s.jumpTarget form)) else finish (jumpLength form) s

/-- `JCC` (R232): jump if C is 0. -/
def execJcc (form : JumpForm) (s : State) : Out :=
  jumpIf (!s.sr.c) form s

/-- `JCS` (R233): jump if C is 1. -/
def execJcs (form : JumpForm) (s : State) : Out :=
  jumpIf s.sr.c form s

/-- `JEQ` (R234): jump if Z is 1. -/
def execJeq (form : JumpForm) (s : State) : Out :=
  jumpIf s.sr.z form s

/-- `JNC` (R236): jump if N is 0. -/
def execJnc (form : JumpForm) (s : State) : Out :=
  jumpIf (!s.sr.n) form s

/-- `JNE` (R237): jump if Z is 0. -/
def execJne (form : JumpForm) (s : State) : Out :=
  jumpIf (!s.sr.z) form s

/-- `JNS` (R238): jump if N is 1. -/
def execJns (form : JumpForm) (s : State) : Out :=
  jumpIf s.sr.n form s

/-- `JOC` (R239): jump if O is 0. -/
def execJoc (form : JumpForm) (s : State) : Out :=
  jumpIf (!s.sr.o) form s

/-- `JOS` (R240): jump if O is 1. -/
def execJos (form : JumpForm) (s : State) : Out :=
  jumpIf s.sr.o form s

/-- `JMP` (R235): "Change the PC". -/
def execJmp (form : JmpForm) (s : State) : Out :=
  .next (s.withPc (s.jmpTarget form))

end Sys2Proof.Machine
end

