-- ==== Sys2Proof/Machine/Load.lean ====
section
/-! DEFINITION. Loads (spec/43_load.md). -/

namespace Sys2Proof.Machine

/-- `R <- v; setNZ_16(v)` (R140) and the advance. -/
def putWord (r : Reg16) (v : Word) (len : Nat) (s : State) : Out :=
  finish len ((s.set16 r v).withSr (s.sr.setNZ v))

/-- `R <- v; setNZ_8(v)` (R140): a half register keeps its other half. -/
def putByte (r : Reg8) (v : Byte) (len : Nat) (s : State) : Out :=
  finish len ((s.set8 r v).withSr (s.sr.setNZ v))

/-- `Load16(R, form)` (R140). -/
def loadWord (r : Reg16) (src : Src16 MemMode) (s : State) : Out :=
  match src with
  | .imm arg => putWord r arg 4 s
  | .mem m => operand16 m s fun v t => putWord r v m.length t

/-- `Load8(R, form)` (R140). -/
def loadByte (r : Reg8) (src : Src8 MemMode) (s : State) : Out :=
  match src with
  | .imm arg => putByte r arg 3 s
  | .mem m => operand8 m s fun v t => putByte r v m.length t

/-- `SR <- v` with S protected and bit 2 fixed (R150) and the advance. -/
def putStatus (v : Byte) (len : Nat) (s : State) : Out :=
  finish len (s.withSr (s.sr.load v))

/-- The forms of `LDSR` (R150): one byte, in the indirect form too (spec/90_conflicts.md C13). -/
def loadStatus (src : Src8 MemMode) (s : State) : Out :=
  match src with
  | .imm arg => putStatus arg 3 s
  | .mem m => operand8 m s fun v t => putStatus v m.length t

/-- `LDA` (R141): "A = memory". -/
def execLda (form : Src16 AbsMode) (s : State) : Out :=
  loadWord .a (form.toMem AbsMode.toMem) s

/-- `LDB` (R144): "B = memory". -/
def execLdb (form : Src16 AbsMode) (s : State) : Out :=
  loadWord .b (form.toMem AbsMode.toMem) s

/-- `LDAH` (R142): "AH = memory". -/
def execLdah (form : Src8 AbsMode) (s : State) : Out :=
  loadByte .ah (form.toMem AbsMode.toMem) s

/-- `LDAL` (R143): "AL = memory". -/
def execLdal (form : Src8 AbsMode) (s : State) : Out :=
  loadByte .al (form.toMem AbsMode.toMem) s

/-- `LDBH` (R145): "BH = memory". -/
def execLdbh (form : Src8 AbsMode) (s : State) : Out :=
  loadByte .bh (form.toMem AbsMode.toMem) s

/-- `LDBL` (R146): "BL = memory". -/
def execLdbl (form : Src8 AbsMode) (s : State) : Out :=
  loadByte .bl (form.toMem AbsMode.toMem) s

/-- `*LDDR` (R147): "DR = memory"; the tick of R305 follows in the step. -/
def execLddr (form : Src16 AbsIndMode) (s : State) : Out :=
  requireS s (loadWord .dr (form.toMem AbsIndMode.toMem) s)

/-- `LDI` (R148): "I = memory". -/
def execLdi (form : Src16 AbsIndMode) (s : State) : Out :=
  loadWord .i (form.toMem AbsIndMode.toMem) s

/-- `LDJ` (R149): "J = memory". -/
def execLdj (form : Src8 ZpAbsIndMode) (s : State) : Out :=
  loadByte .j (form.toMem ZpAbsIndMode.toMem) s

/-- `LDSP` (R151): "SP = memory"; the loaded value is not checked. -/
def execLdsp (form : Src16 AbsIndMode) (s : State) : Out :=
  loadWord .sp (form.toMem AbsIndMode.toMem) s

/-- `LDSR` (R150): "SR = memory". -/
def execLdsr (form : Src8 AbsIndMode) (s : State) : Out :=
  loadStatus (form.toMem AbsIndMode.toMem) s

/-- `*LEMH` (R152): "EMHI = memory only if System Privileges is set." -/
def execLemh (form : Src16 BoundMode) (s : State) : Out :=
  requireS s (loadWord .emhi (form.toMem BoundMode.toMem) s)

/-- `*LEML` (R153): "EMLI = memory only if System Privileges is set." -/
def execLeml (form : Src16 BoundMode) (s : State) : Out :=
  requireS s (loadWord .emli (form.toMem BoundMode.toMem) s)

/-- `*LIMH` (R154): "IMHI = memory only if System Privileges is set." -/
def execLimh (form : Src16 BoundMode) (s : State) : Out :=
  requireS s (loadWord .imhi (form.toMem BoundMode.toMem) s)

/-- `*LIML` (R155): "IMLI = memory only if System Privileges is set." -/
def execLiml (form : Src16 BoundMode) (s : State) : Out :=
  requireS s (loadWord .imli (form.toMem BoundMode.toMem) s)

end Sys2Proof.Machine
end

