-- ==== Sys2Proof/Machine/Logical.lean ====
section
/-! DEFINITION. Logical instructions (spec/41_logical.md): ANA ANB ORA ORB XORA XORB. -/

namespace Sys2Proof.Machine

/-- The three bitwise operations of R120. -/
inductive LogicOp where
  | and
  | or
  | xor
  deriving DecidableEq, Repr

/-- `x op y`, bit by bit. -/
def logicResult {w : Nat} (op : LogicOp) (x y : BitVec w) : BitVec w :=
  match op with
  | .and => x &&& y
  | .or => x ||| y
  | .xor => x ^^^ y

/-- `R <- R op y; setNZ_16(R)` (R120) and the advance. -/
def logic16 (op : LogicOp) (r : Reg16) (y : Word) (len : Nat) (s : State) : Out :=
  finish len ((s.set16 r (logicResult op (s.get16 r) y)).withSr (s.sr.setNZ (logicResult op (s.get16 r) y)))

/-- `RL <- RL op y; setNZ_8(RL)` (R120): the high half is unchanged. -/
def logic8 (op : LogicOp) (r : Reg8) (y : Byte) (len : Nat) (s : State) : Out :=
  finish len ((s.set8 r (logicResult op (s.get8 r) y)).withSr (s.sr.setNZ (logicResult op (s.get8 r) y)))

/-- The ten forms of a logical instruction (R120). -/
def logicForm (op : LogicOp) (r : Reg16) (low : Reg8) (other : Word) (form : AluForm) (s : State) : Out :=
  match form with
  | .other => logic16 op r other 2 s
  | .index => logic16 op r s.i 2 s
  | .imm8 arg => logic8 op low arg 3 s
  | .imm16 arg => logic16 op r arg 4 s
  | .mem m => operand16 m s fun v t => logic16 op r v m.length t

/-- `ANA` (R121): A AND operand. -/
def execAna (form : AluForm) (s : State) : Out :=
  logicForm .and .a .al s.b form s

/-- `ANB` (R122): B AND operand. -/
def execAnb (form : AluForm) (s : State) : Out :=
  logicForm .and .b .bl s.a form s

/-- `ORA` (R123): A OR operand. -/
def execOra (form : AluForm) (s : State) : Out :=
  logicForm .or .a .al s.b form s

/-- `ORB` (R124): B OR operand. -/
def execOrb (form : AluForm) (s : State) : Out :=
  logicForm .or .b .bl s.a form s

/-- `XORA` (R125): A XOR operand. -/
def execXora (form : AluForm) (s : State) : Out :=
  logicForm .xor .a .al s.b form s

/-- `XORB` (R126): B XOR operand. -/
def execXorb (form : AluForm) (s : State) : Out :=
  logicForm .xor .b .bl s.a form s

end Sys2Proof.Machine
end

