-- ==== Sys2Proof/Machine/Shift.lean ====
section
/-! DEFINITION. Shifts (spec/42_shift.md): SHL SHR. -/

namespace Sys2Proof.Machine

/-- The register a shift form names (R131, R132). -/
def shiftReg : ShiftForm → Reg16
  | .accumulator => .a
  | .base => .b
  | .index => .i

/-- One place to the left (R130, R131): 0 enters at bit 0, the old bit 15 goes to C. -/
def shiftLeft (r : Reg16) (s : State) : Out :=
  finish 2 ((s.set16 r (s.get16 r <<< 1)).withSr (s.sr.shl (s.get16 r)))

/-- One place to the right (R130, R132): 0 enters at bit 15, the old bit 0 goes to C. -/
def shiftRight (r : Reg16) (s : State) : Out :=
  finish 2 ((s.set16 r (s.get16 r >>> 1)).withSr (s.sr.shr (s.get16 r)))

/-- `SHL` (R131): "Operand << 1". -/
def execShl (form : ShiftForm) (s : State) : Out :=
  shiftLeft (shiftReg form) s

/-- `SHR` (R132): "Operand >> 1". -/
def execShr (form : ShiftForm) (s : State) : Out :=
  shiftRight (shiftReg form) s

end Sys2Proof.Machine
end

