-- ==== Sys2Proof/Machine/Stack.lean ====
section
/-! DEFINITION. The stack (spec/46_stack.md): PSH POP RET. -/

namespace Sys2Proof.Machine

/-- The memory forms of `PSH` (R200): the operand first, with its check, then the stack check. -/
def pushMemory (m : MemMode) (s : State) : Out :=
  operand16 m s fun v t => pushing 2 m.length t fun u => u.pushWord v

/-- A `POP` of a word register (R201). -/
def popWord (r : Reg16) (s : State) : Out :=
  checkSp (s.sp - 2) s (finish 2 (((s.dropStack 2).set16 r s.topWord).withSr (s.sr.setNZ s.topWord)))

/-- A `POP` of a half register (R201): the other half is unchanged. -/
def popByte (r : Reg8) (s : State) : Out :=
  checkSp (s.sp - 1) s (finish 2 (((s.dropStack 1).set8 r s.topByte).withSr (s.sr.setNZ s.topByte)))

/-- `PSH` (R200): "Push onto the stack and increment the SP"; the frame form pushes SR and PC + 5. -/
def execPsh (form : PushForm) (s : State) : Out :=
  match form with
  | .accumulator => pushing 2 2 s fun t => t.pushWord s.a
  | .base => pushing 2 2 s fun t => t.pushWord s.b
  | .ah => pushing 1 2 s fun t => t.pushByte (s.get8 .ah)
  | .al => pushing 1 2 s fun t => t.pushByte (s.get8 .al)
  | .frame => pushing 3 2 s fun t => (t.pushByte s.sr.toByte).pushWord (s.pc + 5)
  | .imm8 arg => pushing 1 3 s fun t => t.pushByte arg
  | .mem m => pushMemory m.toMem s

/-- `POP` (R201): "Pop from the stack." -/
def execPop (form : PopForm) (s : State) : Out :=
  match form with
  | .accumulator => popWord .a s
  | .base => popWord .b s
  | .ah => popByte .ah s
  | .al => popByte .al s

/-- `RET` (R202): "RETurn from routine"; no advance. -/
def execRet (s : State) : Out :=
  checkSp (s.sp - 3) s (.next s.returnFrame)

end Sys2Proof.Machine
end

