-- ==== Sys2Proof/Machine/Store.lean ====
section
/-! DEFINITION. Stores (spec/45_store.md): no flag is written (R180). -/

namespace Sys2Proof.Machine

/-- `STA` (R181): "Memory = A". -/
def execSta (form : MemMode) (s : State) : Out :=
  store16 form s.a s

/-- `STB` (R183): "Memory = B". -/
def execStb (form : MemMode) (s : State) : Out :=
  store16 form s.b s

/-- `SEMH` (R191): "Memory = EMHI". -/
def execSemh (form : MemMode) (s : State) : Out :=
  store16 form s.emhi s

/-- `SEML` (R192): "Memory = EMLI". -/
def execSeml (form : MemMode) (s : State) : Out :=
  store16 form s.emli s

/-- `SIMH` (R189): "Memory = IMHI". -/
def execSimh (form : MemMode) (s : State) : Out :=
  store16 form s.imhi s

/-- `SIML` (R190): "Memory = IMLI". -/
def execSiml (form : MemMode) (s : State) : Out :=
  store16 form s.imli s

/-- `STAH` (R182): "Memory = AH". -/
def execStah (form : MemMode) (s : State) : Out :=
  store8 form (s.get8 .ah) s

/-- `STBH` (R184): "Memory = BH". -/
def execStbh (form : MemMode) (s : State) : Out :=
  store8 form (s.get8 .bh) s

/-- `STI` (R185): "Memory = I" (spec/90_conflicts.md C11). -/
def execSti (form : ZpAbsIndMode) (s : State) : Out :=
  store16 form.toMem s.i s

/-- `STJ` (R186): "Memory = J". -/
def execStj (form : StjMode) (s : State) : Out :=
  store8 form.toMem s.j s

/-- `STPC` (R187): the address of the `STPC` itself. -/
def execStpc (arg : Word) (s : State) : Out :=
  store16 (.abs arg) s.pc s

/-- `STSR` (R188): the status byte, bit 2 set. -/
def execStsr (arg : Word) (s : State) : Out :=
  store8 (.abs arg) s.sr.toByte s

end Sys2Proof.Machine
end

