-- ==== Sys2Proof/Machine/SystemIo.lean ====
section
/-! DEFINITION. System and IO instructions (spec/49_system_io.md): CPUID KILL MSB NOP REST SYS READ WRTE WRTI. -/

namespace Sys2Proof.Machine

/-- The length of a `NOP` opcode: its argument bytes are skipped (R81, R253). -/
def nopLength : NopForm → Nat
  | .op0000 | .op0029 | .op002A | .op002B | .op002C | .op002F | .op0030 | .op0033 | .op0034 | .op0035 | .op0069 | .op3FFC => 2
  | .op4000 _ | .op4023 _ | .op4038 _ | .op405D _ | .op7FFF _ => 3
  | .op8000 _ | .op8076 _ | .op8078 _ | .op80BF _ | .op80FE _ => 4

/-- The length of a `READ` form (R259). -/
def readLength : ReadForm → Nat
  | .accumulator | .base => 2
  | .zp _ | .zpX _ => 3
  | .abs _ | .absX _ => 4

/-- The half register a `READ` form fills: BH when A holds the address, else AH (R259). -/
def readTarget : ReadForm → Reg8
  | .accumulator => .bh
  | .base | .zp _ | .zpX _ | .abs _ | .absX _ => .ah

/-- One byte written to the external space, its address checked first (R57, R65), and the advance. -/
def writeExternal (a : Word) (v : Byte) (len : Nat) (s : State) : Out :=
  checkExt a s fun t => finish len (t.recordWrite a v)

/-- One byte read from the external space into a half register, N and Z from it (R259), and the advance. -/
def readExternal (a : Word) (r : Reg8) (len : Nat) (s : State) : Out :=
  checkExt a s fun t =>
    finish len (((t.recordRead a).set8 r (t.ioAnswer a)).withSr (t.sr.setNZ (t.ioAnswer a)))

/-- `CPUID` (R250): "AL = ANC16 version. AH = Variant"; no flag. -/
def execCpuid (s : State) : Out :=
  finish 2 ((s.set8 .al Config.isaVersion).set8 .ah Config.variant)

/-- `*KILL` (R251): "Stop the execution of the CPU"; PC stays at the `KILL`. -/
def execKill (form : KillForm) (s : State) : Out :=
  match form with
  | .op0001 => requireS s (.next { s with run := .stopped })
  | .op3FFD => requireS s (.next { s with run := .stopped })
  | .op8086 _ => requireS s (.next { s with run := .stopped })

/-- `MSB` (R252): "Z = most significant bit", not inverted. -/
def execMsb (form : MsbForm) (s : State) : Out :=
  match form with
  | .accumulator => finish 2 (s.withSr { s.sr with z := s.a.msb })
  | .base => finish 2 (s.withSr { s.sr with z := s.b.msb })

/-- `NOP` (R253): "No operation"; argument bytes are skipped. -/
def execNop (form : NopForm) (s : State) : Out :=
  finish (nopLength form) s

/-- `*REST` (R254): "Issue a restart interrupt". -/
def execRest (s : State) : Out :=
  requireS s (.next s.restart)

/-- `SYS` (R258): "Call to System software interrupt". -/
def execSys (s : State) : Out :=
  raise .sys s

/-- `READ` (R259): "Read from IO devices". -/
def execRead (form : ReadForm) (s : State) : Out :=
  readExternal (s.readAddress form) (readTarget form) (readLength form) s

/-- `WRTE` (R260): "Write into IO devices, data are stored in AH." -/
def execWrte (form : WrteForm) (s : State) : Out :=
  writeExternal (s.wrteAddress form) (s.get8 .ah) 4 s

/-- `WRTI` (R261): "the address is stored in I"; a memory datum is fetched and checked first. -/
def execWrti (form : WrtiForm) (s : State) : Out :=
  match form with
  | .ah => writeExternal s.i (s.get8 .ah) 2 s
  | .bh => writeExternal s.i (s.get8 .bh) 2 s
  | .imm8 arg => writeExternal s.i arg 3 s
  | .mem m => operand8 m.toMem s fun v t => writeExternal s.i v m.toMem.length t

end Sys2Proof.Machine
end

