-- ==== Sys2Proof/Machine/Transfer.lean ====
section
/-! DEFINITION. Transfers between registers (spec/44_transfer.md). -/

namespace Sys2Proof.Machine

/-- A word copied from a register into a register, N and Z from it (R160). -/
def transfer16 (dst src : Reg16) (s : State) : Out :=
  finish 2 ((s.set16 dst (s.get16 src)).withSr (s.sr.setNZ (s.get16 src)))

/-- A byte copied from a half register into a half register or J, N and Z from it at 8 bits (R160). -/
def transfer8 (dst src : Reg8) (s : State) : Out :=
  finish 2 ((s.set8 dst (s.get8 src)).withSr (s.sr.setNZ (s.get8 src)))

/-- `TAB` (R161): "B = A". -/
def execTab (s : State) : Out :=
  transfer16 .b .a s

/-- `TABH` (R162): "BH = AH". -/
def execTabh (s : State) : Out :=
  transfer8 .bh .ah s

/-- `TABL` (R163): "BL = AL". -/
def execTabl (s : State) : Out :=
  transfer8 .bl .al s

/-- `*TADR` (R164): "DR = A". -/
def execTadr (s : State) : Out :=
  requireS s (transfer16 .dr .a s)

/-- `*TAEMH` (R165): "EMHI = A". -/
def execTaemh (s : State) : Out :=
  requireS s (transfer16 .emhi .a s)

/-- `*TAEML` (R166): "EMLI = A". -/
def execTaeml (s : State) : Out :=
  requireS s (transfer16 .emli .a s)

/-- `TAHJ` (R167): "J = AH". -/
def execTahj (s : State) : Out :=
  transfer8 .j .ah s

/-- `TAI` (R168): "I = A". -/
def execTai (s : State) : Out :=
  transfer16 .i .a s

/-- `*TAIMH` (R169): "IMHI = A". -/
def execTaimh (s : State) : Out :=
  requireS s (transfer16 .imhi .a s)

/-- `*TAIML` (R170): "IMLI = A". -/
def execTaiml (s : State) : Out :=
  requireS s (transfer16 .imli .a s)

/-- `TBA` (R171): "A = B". -/
def execTba (s : State) : Out :=
  transfer16 .a .b s

/-- `TBAH` (R172): "AH = BH". -/
def execTbah (s : State) : Out :=
  transfer8 .ah .bh s

/-- `TBAL` (R173): "AL = BL". -/
def execTbal (s : State) : Out :=
  transfer8 .al .bl s

/-- `TBHJ` (R174): "J = BH". -/
def execTbhj (s : State) : Out :=
  transfer8 .j .bh s

/-- `TBI` (R175): "I = B". -/
def execTbi (s : State) : Out :=
  transfer16 .i .b s

/-- `TISP` (R176): "SP = I". -/
def execTisp (s : State) : Out :=
  transfer16 .sp .i s

/-- `TSPB` (R177): "B = SP". -/
def execTspb (s : State) : Out :=
  transfer16 .b .sp s

end Sys2Proof.Machine
end

