-- ==== Sys2Proof/Machine/Dispatch.lean ====
section
/-! DEFINITION. What each instruction does: one arm per constructor of `Instr`, each a call of its meaning. The meaning
moves the PC (spec/30_encoding.md R79), takes any interrupt the instruction raises, and leaves the DR tick to the step
(spec/60_exceptions.md R305). -/

namespace Sys2Proof.Machine

/-- The effect of one instruction at `s.pc` (spec/00_scope.md R8). -/
def exec (i : Instr) (s : State) : Host.Outcome State Fault Refusal :=
  match i with
  | .ada form => Sys2Proof.Machine.execAda form s
  | .adb form => Sys2Proof.Machine.execAdb form s
  | .ana form => Sys2Proof.Machine.execAna form s
  | .anb form => Sys2Proof.Machine.execAnb form s
  | .aret => Sys2Proof.Machine.execAret s
  | .clc => Sys2Proof.Machine.execClc s
  | .cld => Sys2Proof.Machine.execCld s
  | .cli => Sys2Proof.Machine.execCli s
  | .clo => Sys2Proof.Machine.execClo s
  | .cls => Sys2Proof.Machine.execCls s
  | .cmah form => Sys2Proof.Machine.execCmah form s
  | .cmbh form => Sys2Proof.Machine.execCmbh form s
  | .cmpa form => Sys2Proof.Machine.execCmpa form s
  | .cmpb form => Sys2Proof.Machine.execCmpb form s
  | .cmpi form => Sys2Proof.Machine.execCmpi form s
  | .cpuid => Sys2Proof.Machine.execCpuid s
  | .dea => Sys2Proof.Machine.execDea s
  | .deb => Sys2Proof.Machine.execDeb s
  | .dei => Sys2Proof.Machine.execDei s
  | .dej => Sys2Proof.Machine.execDej s
  | .ina => Sys2Proof.Machine.execIna s
  | .inb => Sys2Proof.Machine.execInb s
  | .ini => Sys2Proof.Machine.execIni s
  | .inj => Sys2Proof.Machine.execInj s
  | .jcc form => Sys2Proof.Machine.execJcc form s
  | .jcs form => Sys2Proof.Machine.execJcs form s
  | .jeq form => Sys2Proof.Machine.execJeq form s
  | .jmp form => Sys2Proof.Machine.execJmp form s
  | .jnc form => Sys2Proof.Machine.execJnc form s
  | .jne form => Sys2Proof.Machine.execJne form s
  | .jns form => Sys2Proof.Machine.execJns form s
  | .joc form => Sys2Proof.Machine.execJoc form s
  | .jos form => Sys2Proof.Machine.execJos form s
  | .kill form => Sys2Proof.Machine.execKill form s
  | .lda form => Sys2Proof.Machine.execLda form s
  | .ldah form => Sys2Proof.Machine.execLdah form s
  | .ldal form => Sys2Proof.Machine.execLdal form s
  | .ldb form => Sys2Proof.Machine.execLdb form s
  | .ldbh form => Sys2Proof.Machine.execLdbh form s
  | .ldbl form => Sys2Proof.Machine.execLdbl form s
  | .lddr form => Sys2Proof.Machine.execLddr form s
  | .ldi form => Sys2Proof.Machine.execLdi form s
  | .ldj form => Sys2Proof.Machine.execLdj form s
  | .ldsp form => Sys2Proof.Machine.execLdsp form s
  | .ldsr form => Sys2Proof.Machine.execLdsr form s
  | .lemh form => Sys2Proof.Machine.execLemh form s
  | .leml form => Sys2Proof.Machine.execLeml form s
  | .limh form => Sys2Proof.Machine.execLimh form s
  | .liml form => Sys2Proof.Machine.execLiml form s
  | .msb form => Sys2Proof.Machine.execMsb form s
  | .nop form => Sys2Proof.Machine.execNop form s
  | .ora form => Sys2Proof.Machine.execOra form s
  | .orb form => Sys2Proof.Machine.execOrb form s
  | .pop form => Sys2Proof.Machine.execPop form s
  | .psh form => Sys2Proof.Machine.execPsh form s
  | .read form => Sys2Proof.Machine.execRead form s
  | .rest => Sys2Proof.Machine.execRest s
  | .ret => Sys2Proof.Machine.execRet s
  | .sed => Sys2Proof.Machine.execSed s
  | .sei => Sys2Proof.Machine.execSei s
  | .semh form => Sys2Proof.Machine.execSemh form s
  | .seml form => Sys2Proof.Machine.execSeml form s
  | .ses => Sys2Proof.Machine.execSes s
  | .shl form => Sys2Proof.Machine.execShl form s
  | .shr form => Sys2Proof.Machine.execShr form s
  | .simh form => Sys2Proof.Machine.execSimh form s
  | .siml form => Sys2Proof.Machine.execSiml form s
  | .sta form => Sys2Proof.Machine.execSta form s
  | .stah form => Sys2Proof.Machine.execStah form s
  | .stb form => Sys2Proof.Machine.execStb form s
  | .stbh form => Sys2Proof.Machine.execStbh form s
  | .sti form => Sys2Proof.Machine.execSti form s
  | .stj form => Sys2Proof.Machine.execStj form s
  | .stpc arg => Sys2Proof.Machine.execStpc arg s
  | .stsr arg => Sys2Proof.Machine.execStsr arg s
  | .sua form => Sys2Proof.Machine.execSua form s
  | .sub form => Sys2Proof.Machine.execSub form s
  | .sys => Sys2Proof.Machine.execSys s
  | .tab => Sys2Proof.Machine.execTab s
  | .tabh => Sys2Proof.Machine.execTabh s
  | .tabl => Sys2Proof.Machine.execTabl s
  | .tadr => Sys2Proof.Machine.execTadr s
  | .taemh => Sys2Proof.Machine.execTaemh s
  | .taeml => Sys2Proof.Machine.execTaeml s
  | .tahj => Sys2Proof.Machine.execTahj s
  | .tai => Sys2Proof.Machine.execTai s
  | .taimh => Sys2Proof.Machine.execTaimh s
  | .taiml => Sys2Proof.Machine.execTaiml s
  | .tba => Sys2Proof.Machine.execTba s
  | .tbah => Sys2Proof.Machine.execTbah s
  | .tbal => Sys2Proof.Machine.execTbal s
  | .tbhj => Sys2Proof.Machine.execTbhj s
  | .tbi => Sys2Proof.Machine.execTbi s
  | .tisp => Sys2Proof.Machine.execTisp s
  | .tspb => Sys2Proof.Machine.execTspb s
  | .wrte form => Sys2Proof.Machine.execWrte form s
  | .wrti form => Sys2Proof.Machine.execWrti form s
  | .xora form => Sys2Proof.Machine.execXora form s
  | .xorb form => Sys2Proof.Machine.execXorb form s

end Sys2Proof.Machine
end

