-- ==== Sys2Proof/Machine/Boundary.lean ====
section
/-! DEFINITION. What happens at an instruction boundary (spec/60_exceptions.md R300-R306, R314): the environment's
input, the choice of an interrupt, the fetch and decoding of an instruction, the DR tick. -/

namespace Sys2Proof.Machine

/-! ## The environment's input (R303, R328; log 11) -/

/-- Nothing presented. -/
def BoundaryInput.quiet : BoundaryInput where
  reset := false
  nmi := none
  eirq := none

/-- What the environment presents at this boundary; nothing when the schedule is used up. -/
def State.boundaryInput (s : State) : BoundaryInput :=
  match s.inputs with
  | [] => BoundaryInput.quiet
  | x :: _ => x

/-- The boundary's input is gone, taken or not: the processor keeps no record of it (R303). -/
def State.consumeInput (s : State) : State := { s with inputs := s.inputs.tail }

/-- A boundary at which the machine goes on: its input is gone, and so is the hit remembered until it (R305). -/
def State.passBoundary (s : State) : State := { s with inputs := s.inputs.tail, drHit := false }

/-! ## The interrupt taken at a boundary (R300, R314) -/

/-- The external NMI of the platforms that have one (R304, R314). -/
def State.nmiReady (s : State) (x : BoundaryInput) : Option Interrupt :=
  if s.cfg.hasExternalNmi then x.nmi.map .nmi else none

/-- DR-INR is due when DR is 0 and D is 1, judged anew at every boundary (R306), or was so at an earlier decrement of the
instruction just executed (R305). -/
def State.drInrReady (s : State) : Option Interrupt :=
  if (s.dr == 0 || s.drHit) && s.sr.d then some .drInr else none

/-- A presented EIRQ is taken when I_ is 1 (R303). -/
def State.eirqReady (s : State) (x : BoundaryInput) : Option Interrupt :=
  if s.sr.i then x.eirq.map fun (addr, data) => .eirq addr data else none

/-- The one asynchronous interrupt taken, by `IRQ_PRIORITY` (R314). -/
def State.pending (s : State) (x : BoundaryInput) : Option Interrupt :=
  match s.cfg.irqPriority with
  | .drInrFirst => (s.nmiReady x).or (s.drInrReady.or (s.eirqReady x))
  | .eirqFirst => (s.nmiReady x).or ((s.eirqReady x).or s.drInrReady)

/-! ## Fetch, decode, execute, tick (R78, R305) -/

/-- The four bytes from the PC, enough for any instruction; fetching is unchecked and has no side effect (R43, R58,
R70). -/
def State.fetchBytes (s : State) : List Byte :=
  [s.readCell s.pc, s.readCell (s.pc + 1), s.readCell (s.pc + 2), s.readCell (s.pc + 3)]

/-- IR takes the opcode fetched (R78). -/
def State.loadIr (s : State) : State := s.withIr (s.readWord s.pc)

/-- One instruction, from its fetch to its effect (R78); an opcode that is not recognised raises NMI with cause 1
(R80). -/
def State.runInstruction (s : State) : Out :=
  match decode s.fetchBytes with
  | .ok (i, _) => exec i s.loadIr
  | .error _ => raise (.nmi 1) s.loadIr

/-- The number of decrements beyond the first that `DR_TICKS` gives an opcode; `other` where the list has none. -/
def lookupTicks (op : Word) (other : Nat) : List (Word × Nat) → Nat
  | [] => other
  | (k, n) :: rest => if k == op then n else lookupTicks op other rest

/-- The decrements beyond the first of the instruction just executed, whose opcode is in IR: the number drawn for it, else
`DR_TICKS` (R5, R305; log 12). -/
def State.extraTicks (s : State) : Nat :=
  match s.drDraws with
  | n :: _ => n
  | [] => lookupTicks s.ir s.cfg.extraTicksElse s.cfg.extraTicks

/-- One decrement of DR, which wraps (R307). -/
def State.decrementDr (s : State) : State := { s with dr := s.dr - 1 }

/-- R306 judged between two decrements, a hit being remembered (R305). -/
def State.noteHit (s : State) : State := { s with drHit := s.drHit || (s.dr == 0 && s.sr.d) }

/-- `extra + 1` single decrements of DR, with R306 judged after each (R305); the one after the last is that of the
boundary, `State.drInrReady`. -/
def State.countDown (s : State) (extra : Nat) : State :=
  match extra with
  | 0 => s.decrementDr
  | n + 1 => State.countDown s.decrementDr.noteHit n

/-- The DR tick, which a stopped processor does not make (R300, R305). -/
def State.tick (s : State) : State :=
  match s.run with
  | .running => { s.countDown s.extraTicks with drDraws := s.drDraws.tail }
  | .stopped => s

/-- The tick after an executed instruction, whether it completed or raised an interrupt (R305). -/
def tickOut (o : Out) : Out :=
  match o with
  | .next s => .next s.tick
  | .fault r => .fault r
  | .refused r => .refused r

/-- One step (R300): RESET; a stopped processor; an interrupt; an instruction. -/
def State.boundaryStep (s : State) : Out :=
  if s.boundaryInput.reset then .next s.passBoundary.restart
  else
    match s.run with
    | .stopped => .next s.consumeInput
    | .running =>
      match s.pending s.boundaryInput with
      | some k => .next (s.passBoundary.enter k s.pc)
      | none => tickOut s.passBoundary.runInstruction

/-! ## Supplying memory from outside (log 13) -/

/-- Bytes put into memory from address `a` on, the ROM included: the image that the environment supplies, not a store of
the machine (R328). -/
def State.placeBytes (s : State) (a : Word) (bytes : List Byte) : State :=
  match bytes with
  | [] => s
  | v :: rest => State.placeBytes { s with mem := s.mem.write a.toNat v } (a + 1) rest

end Sys2Proof.Machine
end

