-- ==== Sys2Proof/Machine/Step.lean ====
section
/-! DEFINITION. One step of the machine, and the placing of an instruction where the next step fetches. -/

namespace Sys2Proof.Machine

/-- One step (spec/60_exceptions.md R300). -/
def step (s : State) : Host.Outcome State Fault Refusal := s.boundaryStep

/-- The state with an instruction, given as spec/opcode_table.json numbers its bits, at the address the next step fetches
from (log 13). -/
def State.withFetchWord (s : State) (nbits w : Nat) : State :=
  s.placeBytes s.pc (tableBytes nbits w)

end Sys2Proof.Machine
end

