-- ==== Sys2Proof/Safety.lean ====
section
/-! DEFINITION. The words in which claims speak of safe states: the invariant, and when a check lets an access pass. -/

namespace Sys2Proof.Machine

/-- The invariant of every state the machine can be in: internal memory keeps its canonical form, and a hit of DR-INR's
condition is remembered only while D is 1 and the processor runs (spec/60_exceptions.md R305, R306). -/
abbrev State.Inv (s : State) : Prop :=
  s.mem.wf = true ∧ (s.drHit = true → s.sr.d = true ∧ s.run = .running)

/-- `CheckInt(a)` passes (spec/20_memory.md R56): system mode, or `a` inside [IMLI, IMHI]. -/
abbrev State.internalOk (s : State) (a : Word) : Prop :=
  s.sr.s = true ∨ (s.imli.toNat ≤ a.toNat ∧ a.toNat ≤ s.imhi.toNat)

/-- `CheckExt(a)` passes (R57): system mode, or `a` inside [EMLI, EMHI]. -/
abbrev State.externalOk (s : State) (a : Word) : Prop :=
  s.sr.s = true ∨ (s.emli.toNat ≤ a.toNat ∧ a.toNat ≤ s.emhi.toNat)

/-- `CheckSP` passes for a move of SP to `sp'` (R61): system mode, or SP before and after inside [IMLI, IMHI]. -/
abbrev State.stackOk (s : State) (sp' : Word) : Prop :=
  s.sr.s = true ∨
    ((s.imli.toNat ≤ s.sp.toNat ∧ s.sp.toNat ≤ s.imhi.toNat) ∧ (s.imli.toNat ≤ sp'.toNat ∧ sp'.toNat ≤ s.imhi.toNat))

/-- A store of `n` bytes at `a` does not stop the model (log 7): `ROM_WRITE` is `ignore`, or no byte is in the ROM. -/
abbrev State.storeOk (s : State) (a : Word) (n : Nat) : Prop :=
  s.cfg.romWrite = .ignore ∨ ∀ k, k < n → (a + BitVec.ofNat 16 k).toNat < 0xFE00

/-- Nothing but an instruction happens at this boundary (spec/60_exceptions.md R300): no RESET, running, no interrupt. -/
abbrev State.quietBoundary (s : State) : Prop :=
  s.boundaryInput.reset = false ∧ s.run = .running ∧ s.pending s.boundaryInput = none

end Sys2Proof.Machine
end

