-- ==== Sys2Proof/Certificates/Slice0/Obligations.lean ====
section
/-! DEFINITION. The statements for the provers. The definitions before them are the spec's own tables and formulas, in
numbers, so that a statement does not repeat the model's text: which register and which source an instruction names,
the flags of a result, the word at an address. -/

namespace Sys2Proof.Claims

open Sys2Proof.Machine

/-! ## The spec's arithmetic, on numbers -/

/-- `signed_n(v)` (R6). -/
def signed (n v : Nat) : Int := if v < 2 ^ (n - 1) then (v : Int) else (v : Int) - (2 : Int) ^ n

/-- An integer outside -2^(n-1) .. 2^(n-1) - 1. -/
def outside (n : Nat) (t : Int) : Bool := decide (t < -(2 : Int) ^ (n - 1)) || decide (t > (2 : Int) ^ (n - 1) - 1)

/-- `setNZ_n(v)` (R35) for a value below 2^n: N is bit n-1, Z says that it is 0. -/
def nzFlags (n : Nat) (f : Status) (v : Nat) : Status :=
  { f with n := decide (2 ^ (n - 1) ≤ v), z := decide (v = 0) }

/-- The flags of `Add_n(x, y)` (R100). -/
def addFlags (n : Nat) (f : Status) (x y : Nat) : Status :=
  { nzFlags n f ((x + y) % 2 ^ n) with
    o := outside n (signed n x + signed n y)
    c := decide (x + y > 2 ^ n - 1) }

/-- The stored result of `Sub_n(x, y)` (R101), for `x` and `y` below 2^n. -/
def difference (n x y : Nat) : Nat := (2 ^ n + x - y) % 2 ^ n

/-- The flags of `Sub_n(x, y)` (R101) under either setting of `SUB_CARRY_POLARITY`. -/
def subFlags (n : Nat) (p : SubCarryPolarity) (f : Status) (x y : Nat) : Status :=
  { nzFlags n f (difference n x y) with
    o := outside n (signed n x - signed n y)
    c := match p with
      | .borrow => decide (x < y)
      | .noBorrow => decide (y ≤ x) }

/-- The flags of `Cmp_n(x, y)` (R210). -/
def cmpFlags (n : Nat) (f : Status) (x y : Nat) : Status :=
  { f with
    n := decide (2 ^ (n - 1) ≤ difference n x y)
    z := decide (x = y)
    c := decide (y ≤ x) }

/-- One bit of a logical result (R120). -/
inductive Bitwise where
  | and
  | or
  | xor
  deriving DecidableEq, Repr

/-- "AND (1 where both bits are 1), OR (1 where either is 1) or XOR (1 where the bits differ)". -/
def Bitwise.bit : Bitwise → Bool → Bool → Bool
  | .and, p, q => p && q
  | .or, p, q => p || q
  | .xor, p, q => p != q

/-- The byte whose number is `n` modulo 256. -/
def byteOf (n : Nat) : Byte := BitVec.ofNat 8 n

/-- The word whose number is `n` modulo 65536. -/
def wordOf (n : Nat) : Word := BitVec.ofNat 16 n

/-- Bits 15:8. -/
def highOf (w : Word) : Byte := byteOf (w.toNat / 256)

/-- Bits 7:0. -/
def lowOf (w : Word) : Byte := byteOf (w.toNat % 256)

/-- `MemRead(a, 2)` (R43): the high byte at `a`, the low byte at `a + 1` modulo 2^16. -/
def wordAt (s : State) (a : Word) : Word := wordOf ((s.readCell a).toNat * 256 + (s.readCell (a + 1)).toNat)

/-- `pc + n` modulo 2^16. -/
def pcPlus (s : State) (n : Nat) : Word := wordOf (s.pc.toNat + n)

/-! ## Sources of an instruction -/

/-- Where a word operand comes from. -/
inductive Source where
  | reg (r : Reg16)
  | imm (v : Word)
  | mem (m : MemMode)
  deriving DecidableEq, Repr

/-- Where a byte operand comes from. -/
inductive ByteSource where
  | reg (r : Reg8)
  | imm (v : Byte)
  | mem (m : MemMode)
  deriving DecidableEq, Repr

/-- The word operand. -/
def Source.value (s : State) : Source → Word
  | .reg r => s.get16 r
  | .imm v => v
  | .mem m => wordAt s (s.ea m)

/-- The length of an instruction with this source: 2 for a register, 4 for a word immediate. -/
def Source.length : Source → Nat
  | .reg _ => 2
  | .imm _ => 4
  | .mem m => m.length

/-- AR after the instruction: the effective address of a memory operand (R58), else as before. -/
def Source.ar (s : State) : Source → Word
  | .reg _ => s.ar
  | .imm _ => s.ar
  | .mem m => s.ea m

/-- The operand's check passes (R56); a register or an immediate has none. -/
def Source.ok (s : State) : Source → Prop
  | .reg _ => True
  | .imm _ => True
  | .mem m => s.internalOk (s.ea m)

/-- The byte operand. -/
def ByteSource.value (s : State) : ByteSource → Byte
  | .reg r => s.get8 r
  | .imm v => v
  | .mem m => s.readCell (s.ea m)

/-- The length of an instruction with this source: 2 for a register, 3 for a byte immediate. -/
def ByteSource.length : ByteSource → Nat
  | .reg _ => 2
  | .imm _ => 3
  | .mem m => m.length

/-- AR after the instruction. -/
def ByteSource.ar (s : State) : ByteSource → Word
  | .reg _ => s.ar
  | .imm _ => s.ar
  | .mem m => s.ea m

/-- The operand's check passes. -/
def ByteSource.ok (s : State) : ByteSource → Prop
  | .reg _ => True
  | .imm _ => True
  | .mem m => s.internalOk (s.ea m)

/-! ## Interrupts raised by an instruction (R313) -/

/-- The state after a synchronous interrupt raised by the instruction at `s.pc`; `InterruptEntry` says what `enter` does. -/
def raised (s : State) (k : Interrupt) : State := s.enter k (s.pc + s.cfg.syncSavedPcOffset)

/-- The state after IAOOR-INR for internal address `a` (R56). -/
def iaoor (s : State) (a : Word) : State := raised { s with ar := a } .iaoor

/-- The state after EAOOR-INR for external address `a` (R57). -/
def eaoor (s : State) (a : Word) : State := raised { s with ar := a } .eaoor

/-- The vectors of R301. -/
def vectorOf : Interrupt → Word
  | .drInr => 0x2002
  | .eirq _ _ => 0x2004
  | .nmi _ => 0x2006
  | .sys => 0x2008
  | .iaoor => 0x200A
  | .eaoor => 0x200C
  | .spoor => 0x200E

/-! ## The instruction tables of files 40 to 49 -/

/-- The word source of a form of `ADA` or `ADB`, `q` being the other of A and B. -/
def addSource (q : Reg16) : AddForm → Option Source
  | .other => some (.reg q)
  | .imm8 _ => none
  | .imm16 v => some (.imm v)
  | .mem m => some (.mem m)

/-- The byte immediate of such a form. -/
def addImmediate : AddForm → Option Byte
  | .imm8 v => some v
  | .other | .imm16 _ | .mem _ => none

/-- The word forms of `ADA` and `ADB`: destination and source (R104, R105). -/
def addWord : Instr → Option (Reg16 × Source)
  | .ada f => (addSource .b f).map fun y => (.a, y)
  | .adb f => (addSource .a f).map fun y => (.b, y)
  | _ => none

/-- The one-byte immediate forms of `ADA` and `ADB`: AL or BL and the argument. -/
def addByte : Instr → Option (Reg8 × Byte)
  | .ada f => (addImmediate f).map fun v => (.al, v)
  | .adb f => (addImmediate f).map fun v => (.bl, v)
  | _ => none

/-- The word source of a form that `SUA SUB ANA ANB ORA ORB XORA XORB` share, `q` being the other of A and B. -/
def aluSource (q : Reg16) : AluForm → Option Source
  | .other => some (.reg q)
  | .index => some (.reg .i)
  | .imm8 _ => none
  | .imm16 v => some (.imm v)
  | .mem m => some (.mem m)

/-- The byte immediate of such a form. -/
def aluByte : AluForm → Option Byte
  | .imm8 v => some v
  | .other | .index | .imm16 _ | .mem _ => none

/-- The word forms of `SUA` and `SUB` (R114, R115). -/
def subWord : Instr → Option (Reg16 × Source)
  | .sua f => (aluSource .b f).map fun y => (.a, y)
  | .sub f => (aluSource .a f).map fun y => (.b, y)
  | _ => none

/-- The one-byte immediate forms of `SUA` and `SUB`. -/
def subByte : Instr → Option (Reg8 × Byte)
  | .sua f => (aluByte f).map fun v => (.al, v)
  | .sub f => (aluByte f).map fun v => (.bl, v)
  | _ => none

/-- The word forms of the logical instructions (R121-R126). -/
def logicWord : Instr → Option (Bitwise × Reg16 × Source)
  | .ana f => (aluSource .b f).map fun y => (.and, .a, y)
  | .anb f => (aluSource .a f).map fun y => (.and, .b, y)
  | .ora f => (aluSource .b f).map fun y => (.or, .a, y)
  | .orb f => (aluSource .a f).map fun y => (.or, .b, y)
  | .xora f => (aluSource .b f).map fun y => (.xor, .a, y)
  | .xorb f => (aluSource .a f).map fun y => (.xor, .b, y)
  | _ => none

/-- The one-byte immediate forms of the logical instructions. -/
def logicByte : Instr → Option (Bitwise × Reg8 × Byte)
  | .ana f => (aluByte f).map fun v => (.and, .al, v)
  | .anb f => (aluByte f).map fun v => (.and, .bl, v)
  | .ora f => (aluByte f).map fun v => (.or, .al, v)
  | .orb f => (aluByte f).map fun v => (.or, .bl, v)
  | .xora f => (aluByte f).map fun v => (.xor, .al, v)
  | .xorb f => (aluByte f).map fun v => (.xor, .bl, v)
  | _ => none

/-- `INA INB INI DEA DEB DEI`: the register and what is added modulo 2^16 (R102). -/
def countWord : Instr → Option (Reg16 × Nat)
  | .ina => some (.a, 1)
  | .inb => some (.b, 1)
  | .ini => some (.i, 1)
  | .dea => some (.a, 0xFFFF)
  | .deb => some (.b, 0xFFFF)
  | .dei => some (.i, 0xFFFF)
  | _ => none

/-- `INJ DEJ`: what is added modulo 2^8. -/
def countByte : Instr → Option Nat
  | .inj => some 1
  | .dej => some 0xFF
  | _ => none

/-- The register of a shift form (R131, R132). -/
def shifted : ShiftForm → Reg16
  | .accumulator => .a
  | .base => .b
  | .index => .i

/-- A source of a load among the six modes. -/
def src16 {M : Type} (f : M → MemMode) : Src16 M → Source
  | .imm v => .imm v
  | .mem m => .mem (f m)

/-- A byte source of a load among the six modes. -/
def src8 {M : Type} (f : M → MemMode) : Src8 M → ByteSource
  | .imm v => .imm v
  | .mem m => .mem (f m)

/-- The word loads (R141-R155). -/
def loadsWord : Instr → Option (Reg16 × Source)
  | .lda f => some (.a, src16 AbsMode.toMem f)
  | .ldb f => some (.b, src16 AbsMode.toMem f)
  | .lddr f => some (.dr, src16 AbsIndMode.toMem f)
  | .ldi f => some (.i, src16 AbsIndMode.toMem f)
  | .ldsp f => some (.sp, src16 AbsIndMode.toMem f)
  | .lemh f => some (.emhi, src16 BoundMode.toMem f)
  | .leml f => some (.emli, src16 BoundMode.toMem f)
  | .limh f => some (.imhi, src16 BoundMode.toMem f)
  | .liml f => some (.imli, src16 BoundMode.toMem f)
  | _ => none

/-- The byte loads but `LDSR`. -/
def loadsByte : Instr → Option (Reg8 × ByteSource)
  | .ldah f => some (.ah, src8 AbsMode.toMem f)
  | .ldal f => some (.al, src8 AbsMode.toMem f)
  | .ldbh f => some (.bh, src8 AbsMode.toMem f)
  | .ldbl f => some (.bl, src8 AbsMode.toMem f)
  | .ldj f => some (.j, src8 ZpAbsIndMode.toMem f)
  | _ => none

/-- The word transfers: destination and source (the table of R160). -/
def movesWord : Instr → Option (Reg16 × Reg16)
  | .tab => some (.b, .a)
  | .tai => some (.i, .a)
  | .tadr => some (.dr, .a)
  | .taiml => some (.imli, .a)
  | .taimh => some (.imhi, .a)
  | .taeml => some (.emli, .a)
  | .taemh => some (.emhi, .a)
  | .tba => some (.a, .b)
  | .tbi => some (.i, .b)
  | .tisp => some (.sp, .i)
  | .tspb => some (.b, .sp)
  | _ => none

/-- The byte transfers. -/
def movesByte : Instr → Option (Reg8 × Reg8)
  | .tabh => some (.bh, .ah)
  | .tahj => some (.j, .ah)
  | .tabl => some (.bl, .al)
  | .tbah => some (.ah, .bh)
  | .tbhj => some (.j, .bh)
  | .tbal => some (.al, .bl)
  | _ => none

/-- The word stores: destination and the word stored (R181-R192). -/
def storesWord (s : State) : Instr → Option (MemMode × Word)
  | .sta m => some (m, s.a)
  | .stb m => some (m, s.b)
  | .sti m => some (m.toMem, s.i)
  | .stpc arg => some (.abs arg, s.pc)
  | .simh m => some (m, s.imhi)
  | .siml m => some (m, s.imli)
  | .semh m => some (m, s.emhi)
  | .seml m => some (m, s.emli)
  | _ => none

/-- The SR byte, N O I_ D S 1 Z C from bit 7 to bit 0 (R17). -/
def statusByte (f : Status) : Byte :=
  byteOf (128 * f.n.toNat + 64 * f.o.toNat + 32 * f.i.toNat + 16 * f.d.toNat + 8 * f.s.toNat + 4 + 2 * f.z.toNat +
    f.c.toNat)

/-- The flags that a loaded byte stands for: S stays 0 when it is 0, bit 2 is ignored (R22, R23, R150). -/
def statusFrom (f : Status) (v : Byte) : Status where
  n := v.getLsbD 7
  o := v.getLsbD 6
  i := v.getLsbD 5
  d := v.getLsbD 4
  s := f.s && v.getLsbD 3
  z := v.getLsbD 1
  c := v.getLsbD 0

/-- The byte stores. -/
def storesByte (s : State) : Instr → Option (MemMode × Byte)
  | .stah m => some (m, highOf s.a)
  | .stbh m => some (m, highOf s.b)
  | .stj m => some (m.toMem, s.j)
  | .stsr arg => some (.abs arg, statusByte s.sr)
  | _ => none

/-- The bytes a `PSH` form pushes, the first at SP (R200, R60). -/
def pushedBytes (s : State) : PushForm → List Byte
  | .accumulator => [highOf s.a, lowOf s.a]
  | .base => [highOf s.b, lowOf s.b]
  | .ah => [highOf s.a]
  | .al => [lowOf s.a]
  | .frame => [statusByte s.sr, highOf (pcPlus s 5), lowOf (pcPlus s 5)]
  | .imm8 v => [v]
  | .mem m => [s.readCell (s.ea m.toMem), s.readCell (s.ea m.toMem + 1)]

/-- How many bytes a `PSH` form pushes. -/
def pushedCount : PushForm → Nat
  | .accumulator | .base | .mem _ => 2
  | .ah | .al | .imm8 _ => 1
  | .frame => 3

/-- The length of a `PSH` form. -/
def pushLength : PushForm → Nat
  | .accumulator | .base | .ah | .al | .frame => 2
  | .imm8 _ => 3
  | .mem m => m.toMem.length

/-- The operand check of a `PSH` form passes; only the memory forms have one. -/
def pushOperandOk (s : State) : PushForm → Prop
  | .mem m => s.internalOk (s.ea m.toMem)
  | .accumulator | .base | .ah | .al | .frame | .imm8 _ => True

/-- AR after a `PSH` form. -/
def pushAr (s : State) : PushForm → Word
  | .mem m => s.ea m.toMem
  | .accumulator | .base | .ah | .al | .frame | .imm8 _ => s.ar

/-- The word forms of `POP` (R201). -/
def popsWord : PopForm → Option Reg16
  | .accumulator => some .a
  | .base => some .b
  | .ah | .al => none

/-- The byte forms of `POP`. -/
def popsByte : PopForm → Option Reg8
  | .ah => some .ah
  | .al => some .al
  | .accumulator | .base => none

/-- The operand of a form of `CMPA` or `CMPB`, `q` being the other of A and B. -/
def cmpSource (q : Reg16) : CmpForm → Source
  | .other => .reg q
  | .index => .reg .i
  | .imm16 v => .imm v
  | .mem m => .mem m

/-- The operand of a form of `CMPI`. -/
def cmpIndexSource : CmpIndexForm → Source
  | .accumulator => .reg .a
  | .imm16 v => .imm v
  | .mem m => .mem m.toMem

/-- The operand of a form of `CMAH` or `CMBH`, `q` being the other of AH and BH. -/
def cmpHighSource (q : Reg8) : CmpHighForm → ByteSource
  | .other => .reg q
  | .imm8 v => .imm v
  | .mem m => .mem m

/-- The word compares: register and operand (R222-R224). -/
def comparesWord : Instr → Option (Reg16 × Source)
  | .cmpa f => some (.a, cmpSource .b f)
  | .cmpb f => some (.b, cmpSource .a f)
  | .cmpi f => some (.i, cmpIndexSource f)
  | _ => none

/-- The byte compares (R220, R221). -/
def comparesByte : Instr → Option (Reg8 × ByteSource)
  | .cmah f => some (.ah, cmpHighSource .bh f)
  | .cmbh f => some (.bh, cmpHighSource .ah f)
  | _ => none

/-- The conditional jumps: the condition tested and the form (R232-R240). -/
def jumpsWhen (f : Status) : Instr → Option (Bool × JumpForm)
  | .jcc g => some (f.c == false, g)
  | .jcs g => some (f.c == true, g)
  | .jeq g => some (f.z == true, g)
  | .jnc g => some (f.n == false, g)
  | .jne g => some (f.z == false, g)
  | .jns g => some (f.n == true, g)
  | .joc g => some (f.o == false, g)
  | .jos g => some (f.o == true, g)
  | _ => none

/-- `(pc + sext_16(d)) mod 2^16` (R230): 0x00-0x7F count 0 to +127, 0x80-0xFF count -128 to -1. -/
def relative (s : State) (d : Byte) : Word :=
  if d.toNat < 128 then wordOf (s.pc.toNat + d.toNat) else wordOf (s.pc.toNat + 65536 + d.toNat - 256)

/-- The target of a conditional jump (R230). -/
def jumpGoal (s : State) : JumpForm → Word
  | .relJ => relative s s.j
  | .rel v => relative s v
  | .abs v => v

/-- The length of a conditional jump (R73-R75). -/
def jumpSize : JumpForm → Nat
  | .relJ => 2
  | .rel _ => 3
  | .abs _ => 4

/-- The target of `JMP` (R235). -/
def jmpGoal (s : State) : JmpForm → Word
  | .accumulator => s.a
  | .base => s.b
  | .index => s.i
  | .relJ => relative s s.j
  | .rel v => relative s v
  | .abs v => v
  | .ind v => wordAt s v

/-- The starred mnemonics (R82). -/
def starred : Instr → Bool
  | .cld | .cli | .cls | .kill _ | .lddr _ | .lemh _ | .leml _ | .limh _ | .liml _ | .rest | .sed | .sei | .ses
  | .tadr | .taemh | .taeml | .taimh | .taiml => true
  | _ => false

/-- The external address of a `READ` form (R259). -/
def readFrom (s : State) : ReadForm → Word
  | .accumulator => s.a
  | .base => s.b
  | .zp v => wordOf v.toNat
  | .zpX v => wordOf (v.toNat + s.i.toNat)
  | .abs v => v
  | .absX v => wordOf (v.toNat + s.i.toNat)

/-- The half register a `READ` form fills. -/
def readInto : ReadForm → Reg8
  | .accumulator => .bh
  | .base | .zp _ | .zpX _ | .abs _ | .absX _ => .ah

/-- The length of a `READ` form. -/
def readSize : ReadForm → Nat
  | .accumulator | .base => 2
  | .zp _ | .zpX _ => 3
  | .abs _ | .absX _ => 4

/-- The external address of a `WRTE` form (R260). -/
def writeTo (s : State) : WrteForm → Word
  | .abs v => v
  | .absX v => wordOf (v.toNat + s.i.toNat)

/-- The datum of a `WRTI` form (R261). -/
def writtenByte : WrtiForm → ByteSource
  | .ah => .reg .ah
  | .bh => .reg .bh
  | .imm8 v => .imm v
  | .mem m => .mem m.toMem

/-- The external writes: the address and the datum (R260, R261). -/
def writesOut (s : State) : Instr → Option (Word × ByteSource)
  | .wrte f => some (writeTo s f, .reg .ah)
  | .wrti f => some (s.i, writtenByte f)
  | _ => none

/-- The length of an external write: `WRTE` has a two-byte argument whatever its datum. -/
def writeSize : Instr → ByteSource → Nat
  | .wrte _, _ => 4
  | _, src => src.length

/-- The address of an IO event. -/
def eventAddress : IoEvent → Word
  | .read a _ => a
  | .write a _ => a

/-- The flags an instruction may write when it completes, as 1 in their place (the table of R34). -/
def writable : Instr → Status
  | .ada _ | .adb _ | .sua _ | .sub _ => ⟨true, true, false, false, false, true, true⟩
  | .cmah _ | .cmbh _ | .cmpa _ | .cmpb _ | .cmpi _ => ⟨true, false, false, false, false, true, true⟩
  | .ana _ | .anb _ | .ora _ | .orb _ | .xora _ | .xorb _ | .ina | .inb | .ini | .inj | .dea | .deb | .dei | .dej
  | .lda _ | .ldah _ | .ldal _ | .ldb _ | .ldbh _ | .ldbl _ | .lddr _ | .ldi _ | .ldj _ | .ldsp _ | .lemh _ | .leml _
  | .limh _ | .liml _ | .pop _ | .read _ | .tab | .tabh | .tabl | .tadr | .taemh | .taeml | .tahj | .tai | .taimh
  | .taiml | .tba | .tbah | .tbal | .tbhj | .tbi | .tisp | .tspb => ⟨true, false, false, false, false, true, false⟩
  | .shl _ | .shr _ => ⟨false, false, false, false, false, true, true⟩
  | .aret | .msb _ => ⟨false, false, false, false, false, true, false⟩
  | .clc => ⟨false, false, false, false, false, false, true⟩
  | .clo => ⟨false, true, false, false, false, false, false⟩
  | .cld | .sed => ⟨false, false, false, true, false, false, false⟩
  | .cli | .sei => ⟨false, false, true, false, false, false, false⟩
  | .cls | .ses => ⟨false, false, false, false, true, false, false⟩
  | .ldsr _ | .ret => ⟨true, true, true, true, true, true, true⟩
  | .cpuid | .kill _ | .nop _ | .psh _ | .rest | .sys | .wrte _ | .wrti _ | .jcc _ | .jcs _ | .jeq _ | .jmp _ | .jnc _
  | .jne _ | .jns _ | .joc _ | .jos _ | .sta _ | .stah _ | .stb _ | .stbh _ | .sti _ | .stj _ | .stpc _ | .stsr _
  | .simh _ | .siml _ | .semh _ | .seml _ => ⟨false, false, false, false, false, false, false⟩

/-- `t` agrees with `s` in every flag outside the mask `w`. -/
def agreesOutside (w s t : Status) : Prop :=
  (w.n = false → t.n = s.n) ∧ (w.o = false → t.o = s.o) ∧ (w.i = false → t.i = s.i) ∧ (w.d = false → t.d = s.d) ∧
    (w.s = false → t.s = s.s) ∧ (w.z = false → t.z = s.z) ∧ (w.c = false → t.c = s.c)

/-- The instructions that do not simply advance the PC: the jumps, `RET`, `REST`, `SYS` (R79), and `KILL`, which leaves
it (R251). -/
def writesPc : Instr → Bool
  | .jcc _ | .jcs _ | .jeq _ | .jmp _ | .jnc _ | .jne _ | .jns _ | .joc _ | .jos _ | .ret | .rest | .sys | .kill _ => true
  | _ => false

/-- No external NMI at this boundary (log 8). -/
def noNmi (s : State) : Prop := s.cfg.hasExternalNmi = false ∨ s.boundaryInput.nmi = none

/-- The state past a boundary of a running processor: the input is used up (log 11), the hit remembered until it gone
(R305). -/
def used (s : State) : State := { s with inputs := s.inputs.tail, drHit := false }

/-- How often DR decrements beyond the first time for the instruction whose opcode is in IR (R5, R305): as drawn, else
as `DR_TICKS` says of the opcode (log 12). -/
def extraOf (s : State) : Nat :=
  match s.drDraws with
  | n :: _ => n
  | [] =>
    match s.cfg.extraTicks.find? (fun e => e.1 == s.ir) with
    | some e => e.2
    | none => s.cfg.extraTicksElse

/-- The number of the single decrement that brings DR to 0. -/
def untilZero (s : State) : Nat := if s.dr.toNat = 0 then 65536 else s.dr.toNat

/-- The state after the tick of R305: as many single decrements as `extraOf` says and one, modulo 2^16; a zero before the
last of them, with D = 1, is remembered until the boundary. -/
def ticked (s : State) : State :=
  { s with
    dr := s.dr - wordOf (extraOf s + 1)
    drHit := s.drHit || (s.sr.d && decide (untilZero s ≤ extraOf s))
    drDraws := s.drDraws.tail }

/-- R306 at this boundary: DR is 0, or was so at an earlier decrement (R305), and D is 1. -/
def dueDrInr (s : State) : Prop := (s.dr = 0 ∨ s.drHit = true) ∧ s.sr.d = true

end Sys2Proof.Claims

section

open Sys2Proof Sys2Proof.Machine Sys2Proof.Claims

/-! ## Arithmetic, logic and shifts -/

/-- R100: `Add_n` at width 16 for the word forms of `ADA` and `ADB` and at width 8 for their one-byte immediate forms;
the whole next state, so nothing else changes; a memory operand out of bounds takes IAOOR-INR instead. (Spec
decisions: D7, D8, D18.) -/
def Obligations.AdditionResult : Prop :=
  (∀ (s : State) (i : Instr) (r : Reg16) (y : Source), addWord i = some (r, y) → y.ok s →
    exec i s = .next { s.set16 r (wordOf ((s.get16 r).toNat + (y.value s).toNat)) with
      sr := addFlags 16 s.sr (s.get16 r).toNat (y.value s).toNat
      ar := y.ar s
      pc := pcPlus s y.length }) ∧
  (∀ (s : State) (i : Instr) (r : Reg16) (y : Source), addWord i = some (r, y) → ¬ y.ok s →
    exec i s = .next (iaoor s (y.ar s))) ∧
  (∀ (s : State) (i : Instr) (r : Reg8) (v : Byte), addByte i = some (r, v) →
    exec i s = .next { s.set8 r (byteOf ((s.get8 r).toNat + v.toNat)) with
      sr := addFlags 8 s.sr (s.get8 r).toNat v.toNat
      pc := pcPlus s 3 })

/-- R101: `Sub_n` for `SUA` and `SUB` under either `SUB_CARRY_POLARITY`. (Spec decisions: D7, D8, D9, D18.) -/
def Obligations.SubtractionResult : Prop :=
  (∀ (s : State) (i : Instr) (r : Reg16) (y : Source), subWord i = some (r, y) → y.ok s →
    exec i s = .next { s.set16 r (wordOf (difference 16 (s.get16 r).toNat (y.value s).toNat)) with
      sr := subFlags 16 s.cfg.subCarryPolarity s.sr (s.get16 r).toNat (y.value s).toNat
      ar := y.ar s
      pc := pcPlus s y.length }) ∧
  (∀ (s : State) (i : Instr) (r : Reg16) (y : Source), subWord i = some (r, y) → ¬ y.ok s →
    exec i s = .next (iaoor s (y.ar s))) ∧
  (∀ (s : State) (i : Instr) (r : Reg8) (v : Byte), subByte i = some (r, v) →
    exec i s = .next { s.set8 r (byteOf (difference 8 (s.get8 r).toNat v.toNat)) with
      sr := subFlags 8 s.cfg.subCarryPolarity s.sr (s.get8 r).toNat v.toNat
      pc := pcPlus s 3 })

/-- R102: increments and decrements write the register, N and Z; C and O keep their values even on a wrap. -/
def Obligations.IncrementDecrement : Prop :=
  (∀ (s : State) (i : Instr) (r : Reg16) (k : Nat), countWord i = some (r, k) →
    exec i s = .next { s.set16 r (wordOf ((s.get16 r).toNat + k)) with
      sr := nzFlags 16 s.sr (((s.get16 r).toNat + k) % 65536)
      pc := pcPlus s 2 }) ∧
  (∀ (s : State) (i : Instr) (k : Nat), countByte i = some k →
    exec i s = .next { s with
      j := byteOf (s.j.toNat + k)
      sr := nzFlags 8 s.sr ((s.j.toNat + k) % 256)
      pc := pcPlus s 2 })

/-- R120: a logical instruction combines the operands bit by bit and sets N and Z from the result at its width. (Spec
decisions: D7, D18.) -/
def Obligations.LogicResult : Prop :=
  (∀ (s : State) (i : Instr) (op : Bitwise) (r : Reg16) (y : Source), logicWord i = some (op, r, y) → y.ok s →
    ∃ v : Word, (∀ k, k < 16 → v.getLsbD k = op.bit ((s.get16 r).getLsbD k) ((y.value s).getLsbD k)) ∧
      exec i s = .next { s.set16 r v with
        sr := nzFlags 16 s.sr v.toNat
        ar := y.ar s
        pc := pcPlus s y.length }) ∧
  (∀ (s : State) (i : Instr) (op : Bitwise) (r : Reg16) (y : Source), logicWord i = some (op, r, y) → ¬ y.ok s →
    exec i s = .next (iaoor s (y.ar s))) ∧
  (∀ (s : State) (i : Instr) (op : Bitwise) (r : Reg8) (y : Byte), logicByte i = some (op, r, y) →
    ∃ v : Byte, (∀ k, k < 8 → v.getLsbD k = op.bit ((s.get8 r).getLsbD k) (y.getLsbD k)) ∧
      exec i s = .next { s.set8 r v with
        sr := nzFlags 8 s.sr v.toNat
        pc := pcPlus s 3 })

/-- R130: a shift by one place of A, B or I; C takes the bit shifted out, 0 enters, Z is set, N and O are kept. (Spec
decisions: D11.) -/
def Obligations.ShiftResult : Prop :=
  ∀ (s : State) (f : ShiftForm),
    exec (.shl f) s = .next { s.set16 (shifted f) (wordOf ((s.get16 (shifted f)).toNat * 2)) with
      sr := { s.sr with
        c := decide (32768 ≤ (s.get16 (shifted f)).toNat)
        z := decide ((s.get16 (shifted f)).toNat * 2 % 65536 = 0) }
      pc := pcPlus s 2 } ∧
    exec (.shr f) s = .next { s.set16 (shifted f) (wordOf ((s.get16 (shifted f)).toNat / 2)) with
      sr := { s.sr with
        c := decide ((s.get16 (shifted f)).toNat % 2 = 1)
        z := decide ((s.get16 (shifted f)).toNat / 2 = 0) }
      pc := pcPlus s 2 }

/-! ## Loads, transfers and stores -/

/-- R140: the word loads; a starred one needs S = 1 (`StarredTraps` says what it does without). (Spec decisions: D7,
D18, D49.) -/
def Obligations.LoadWords : Prop :=
  (∀ (s : State) (i : Instr) (r : Reg16) (y : Source), loadsWord i = some (r, y) → (starred i = true → s.sr.s = true) →
    y.ok s →
    exec i s = .next { s.set16 r (y.value s) with
      sr := nzFlags 16 s.sr (y.value s).toNat
      ar := y.ar s
      pc := pcPlus s y.length }) ∧
  (∀ (s : State) (i : Instr) (r : Reg16) (y : Source), loadsWord i = some (r, y) → starred i = false → ¬ y.ok s →
    exec i s = .next (iaoor s (y.ar s)))

/-- R140: the byte loads into AH, AL, BH, BL and J; the other half register is unchanged. (Spec decisions: D7, D18.)
-/
def Obligations.LoadBytes : Prop :=
  (∀ (s : State) (i : Instr) (r : Reg8) (y : ByteSource), loadsByte i = some (r, y) → y.ok s →
    exec i s = .next { s.set8 r (y.value s) with
      sr := nzFlags 8 s.sr (y.value s).toNat
      ar := y.ar s
      pc := pcPlus s y.length }) ∧
  (∀ (s : State) (i : Instr) (r : Reg8) (y : ByteSource), loadsByte i = some (r, y) → ¬ y.ok s →
    exec i s = .next (iaoor s (y.ar s)))

/-- R150: `LDSR` replaces every flag but S, and S only when it is 1; bit 2 of the byte is ignored. (Spec decisions:
D13, D14, D18.) -/
def Obligations.LoadStatus : Prop :=
  ∀ (s : State) (f : Src8 AbsIndMode),
    ((src8 AbsIndMode.toMem f).ok s →
      exec (.ldsr f) s = .next { s with
        sr := statusFrom s.sr ((src8 AbsIndMode.toMem f).value s)
        ar := (src8 AbsIndMode.toMem f).ar s
        pc := pcPlus s (src8 AbsIndMode.toMem f).length }) ∧
    (¬ (src8 AbsIndMode.toMem f).ok s →
      exec (.ldsr f) s = .next (iaoor s ((src8 AbsIndMode.toMem f).ar s)))

/-- R160: the seventeen transfers; a starred one in user mode issues NMI with AL = 2 and changes nothing else. (Spec
decisions: D7.) -/
def Obligations.TransferResult : Prop :=
  (∀ (s : State) (i : Instr) (d r : Reg16), movesWord i = some (d, r) → (starred i = true → s.sr.s = true) →
    exec i s = .next { s.set16 d (s.get16 r) with
      sr := nzFlags 16 s.sr (s.get16 r).toNat
      pc := pcPlus s 2 }) ∧
  (∀ (s : State) (i : Instr) (d r : Reg8), movesByte i = some (d, r) →
    exec i s = .next { s.set8 d (s.get8 r) with
      sr := nzFlags 8 s.sr (s.get8 r).toNat
      pc := pcPlus s 2 }) ∧
  (∀ (s : State) (i : Instr) (d r : Reg16), movesWord i = some (d, r) → starred i = true → s.sr.s = false →
    exec i s = .next (raised s (.nmi 2)))

/-- R180 for the word stores: the high byte at the effective address, the low byte at the next address, the ROM and
every other cell unchanged, no flag written. (Spec decisions: D16, D17, D18.) -/
def Obligations.StoreWords : Prop :=
  ∀ (s : State) (i : Instr) (m : MemMode) (v : Word), s.mem.wf = true → storesWord s i = some (m, v) →
    (s.internalOk (s.ea m) → s.storeOk (s.ea m) 2 →
      ∃ t, exec i s = .next t ∧ t = { s with mem := t.mem, ar := s.ea m, pc := pcPlus s m.length } ∧
        t.mem.wf = true ∧
        ∀ x : Word, t.readCell x =
          if x.toNat < 0xFE00 ∧ x = s.ea m then highOf v
          else if x.toNat < 0xFE00 ∧ x = s.ea m + 1 then lowOf v
          else s.readCell x) ∧
    (¬ s.internalOk (s.ea m) → exec i s = .next (iaoor s (s.ea m)))

/-- R180 for the byte stores: one cell, or none when it is in the ROM. (Spec decisions: D17, D18.) -/
def Obligations.StoreBytes : Prop :=
  ∀ (s : State) (i : Instr) (m : MemMode) (v : Byte), s.mem.wf = true → storesByte s i = some (m, v) →
    (s.internalOk (s.ea m) → s.storeOk (s.ea m) 1 →
      ∃ t, exec i s = .next t ∧ t = { s with mem := t.mem, ar := s.ea m, pc := pcPlus s m.length } ∧
        t.mem.wf = true ∧
        ∀ x : Word, t.readCell x = if x.toNat < 0xFE00 ∧ x = s.ea m then v else s.readCell x) ∧
    (¬ s.internalOk (s.ea m) → exec i s = .next (iaoor s (s.ea m)))

/-- The model's choice of log 7: under `ROM_WRITE = fault` a store that passes its check and touches the ROM stops. -/
def Obligations.RomWriteStops : Prop :=
  (∀ (s : State) (i : Instr) (m : MemMode) (v : Word), storesWord s i = some (m, v) → s.internalOk (s.ea m) →
    ¬ s.storeOk (s.ea m) 2 → exec i s = .fault .romWrite) ∧
  (∀ (s : State) (i : Instr) (m : MemMode) (v : Byte), storesByte s i = some (m, v) → s.internalOk (s.ea m) →
    ¬ s.storeOk (s.ea m) 1 → exec i s = .fault .romWrite) ∧
  (∀ (s : State) (f : PushForm), pushOperandOk s f → s.stackOk (s.sp + wordOf (pushedCount f)) →
    ¬ s.storeOk s.sp (pushedCount f) → exec (.psh f) s = .fault .romWrite)

/-- R50 to R55: the effective address of each mode, with every sum modulo 2^16. (Spec decisions: D16, D47.) -/
def Obligations.EffectiveAddress : Prop :=
  ∀ (s : State) (z : Byte) (w : Word),
    s.ea (.zp z) = wordOf z.toNat ∧
    s.ea (.zpX z) = wordOf (z.toNat + s.i.toNat) ∧
    s.ea (.abs w) = w ∧
    s.ea (.absX w) = wordOf (w.toNat + s.i.toNat) ∧
    ((s.ea (.absX w)).toNat : Int) = ((w.toNat : Int) + signed 16 s.i.toNat) % 65536 ∧
    s.ea (.ind w) = wordOf ((s.readCell w).toNat * 256 + (s.readCell (w + 1)).toNat) ∧
    s.ea (.indX w) = wordOf ((s.readCell w).toNat * 256 + (s.readCell (w + 1)).toNat + s.i.toNat)

/-! ## The stack -/

/-- R200, but for the frame form: `PSH` writes its bytes from SP on and moves SP up. (Spec decisions: D5, D17, D18,
D21.) -/
def Obligations.PushResult : Prop :=
  ∀ (s : State) (f : PushForm), f ≠ .frame → s.mem.wf = true → pushOperandOk s f →
    s.stackOk (s.sp + wordOf (pushedCount f)) → s.storeOk s.sp (pushedCount f) →
    ∃ t, exec (.psh f) s = .next t ∧
      t = { s with mem := t.mem, sp := s.sp + wordOf (pushedCount f), ar := pushAr s f, pc := pcPlus s (pushLength f) } ∧
      t.mem.wf = true ∧
      (∀ k, k < pushedCount f → (s.sp + wordOf k).toNat < 0xFE00 →
        (pushedBytes s f)[k]? = some (t.readCell (s.sp + wordOf k))) ∧
      (∀ x : Word, (∀ k, k < pushedCount f → x ≠ s.sp + wordOf k) ∨ 0xFE00 ≤ x.toNat → t.readCell x = s.readCell x)

/-- R203: the frame that `PSH` (0064) builds; a byte of it that falls in the ROM is not stored (R205). (Spec
decisions: D2, D5, D6, D17, D21.) -/
def Obligations.PushFrame : Prop :=
  ∀ (s : State), s.mem.wf = true → s.stackOk (s.sp + 3) → s.storeOk s.sp 3 →
    ∃ t, exec (.psh .frame) s = .next t ∧ t = { s with mem := t.mem, sp := s.sp + 3, pc := pcPlus s 2 } ∧
      t.mem.wf = true ∧
      ∀ x : Word, t.readCell x =
        if 0xFE00 ≤ x.toNat then s.readCell x
        else if x = s.sp then statusByte s.sr
        else if x = s.sp + 1 then highOf (pcPlus s 5)
        else if x = s.sp + 2 then lowOf (pcPlus s 5)
        else s.readCell x

/-- R201: `POP` moves SP down and reads there; N and Z from the item, the other half register and memory unchanged.
(Spec decisions: D5, D21, D46.) -/
def Obligations.PopResult : Prop :=
  (∀ (s : State) (f : PopForm) (r : Reg16), popsWord f = some r → s.stackOk (s.sp - 2) →
    exec (.pop f) s = .next { s.set16 r (wordAt s (s.sp - 2)) with
      sp := s.sp - 2
      sr := nzFlags 16 s.sr (wordAt s (s.sp - 2)).toNat
      pc := pcPlus s 2 }) ∧
  (∀ (s : State) (f : PopForm) (r : Reg8), popsByte f = some r → s.stackOk (s.sp - 1) →
    exec (.pop f) s = .next { s.set8 r (s.readCell (s.sp - 1)) with
      sp := s.sp - 1
      sr := nzFlags 8 s.sr (s.readCell (s.sp - 1)).toNat
      pc := pcPlus s 2 })

/-- R202: `RET` takes the PC from the two bytes on top, SR from the third, and moves SP down by three. (Spec
decisions: D5, D6, D14, D21.) -/
def Obligations.ReturnResult : Prop :=
  ∀ (s : State), s.stackOk (s.sp - 3) →
    exec .ret s = .next { s with
      pc := wordAt s (s.sp - 2)
      sr := statusFrom s.sr (s.readCell (s.sp - 3))
      sp := s.sp - 3 }

/-- R60: "`Pop(n)` returns what the matching `Push(n, v)` stored": a `POP` after a `PSH` of the same width gives the
value back and leaves SP where it was. (Spec decisions: D5, D21.) -/
def Obligations.PushThenPop : Prop :=
  (∀ (s t : State) (f : PushForm) (g : PopForm) (r : Reg16) (v : Word), s.mem.wf = true → popsWord g = some r →
    pushedBytes s f = [highOf v, lowOf v] → (∀ k, k < 2 → (s.sp + wordOf k).toNat < 0xFE00) →
    s.stackOk (s.sp + 2) → exec (.psh f) s = .next t → pushOperandOk s f →
    ∃ u, exec (.pop g) t = .next u ∧ u.get16 r = v ∧ u.sp = s.sp ∧ u.mem = t.mem) ∧
  (∀ (s t : State) (f : PushForm) (g : PopForm) (r : Reg8) (v : Byte), s.mem.wf = true → popsByte g = some r →
    pushedBytes s f = [v] → s.sp.toNat < 0xFE00 →
    s.stackOk (s.sp + 1) → exec (.psh f) s = .next t →
    ∃ u, exec (.pop g) t = .next u ∧ u.get8 r = v ∧ u.sp = s.sp ∧ u.mem = t.mem)

/-- R202, R203, R364: a routine that ends with `RET`, with SP and the frame as `PSH` (0064) left them, continues five
bytes after the `PSH` with the flags of the `PSH`, S excepted when it has been lost. (Spec decisions: D5, D6, D14,
D21.) -/
def Obligations.FrameThenReturn : Prop :=
  ∀ (s t u : State), s.mem.wf = true → s.stackOk (s.sp + 3) → (∀ k, k < 3 → (s.sp + wordOf k).toNat < 0xFE00) →
    exec (.psh .frame) s = .next t →
    u.sp = t.sp → (∀ k, k < 3 → u.readCell (s.sp + wordOf k) = t.readCell (s.sp + wordOf k)) → u.stackOk s.sp →
    exec .ret u = .next { u with
      pc := pcPlus s 5
      sp := s.sp
      sr := { s.sr with s := u.sr.s && s.sr.s } }

/-- R309: in user mode a stack instruction whose SP is out of bounds before or after takes SPOOR-INR with nothing else
changed but the AR of a memory operand, whose own check comes first (R315). (Spec decisions: D18, D21, D23.) -/
def Obligations.StackTraps : Prop :=
  (∀ (s : State) (f : PushForm), pushOperandOk s f → ¬ s.stackOk (s.sp + wordOf (pushedCount f)) →
    exec (.psh f) s = .next (raised { s with ar := pushAr s f } .spoor)) ∧
  (∀ (s : State) (f : PushForm), ¬ pushOperandOk s f → exec (.psh f) s = .next (iaoor s (pushAr s f))) ∧
  (∀ (s : State) (f : PopForm) (r : Reg16), popsWord f = some r → ¬ s.stackOk (s.sp - 2) →
    exec (.pop f) s = .next (raised s .spoor)) ∧
  (∀ (s : State) (f : PopForm) (r : Reg8), popsByte f = some r → ¬ s.stackOk (s.sp - 1) →
    exec (.pop f) s = .next (raised s .spoor)) ∧
  (∀ (s : State), ¬ s.stackOk (s.sp - 3) → exec .ret s = .next (raised s .spoor))

/-! ## Flags, compares and jumps -/

/-- R211 to R219: each flag instruction is one two-byte opcode, writes its one flag and advances; the starred six do so in
system mode, and issue NMI with AL = 2 in user mode. -/
def Obligations.FlagInstructions : Prop :=
  (decode [0x00, 0x02] = .ok (.aret, []) ∧ decode [0x00, 0x10] = .ok (.clc, []) ∧ decode [0x00, 0x12] = .ok (.cld, []) ∧
    decode [0x00, 0x13] = .ok (.cli, []) ∧ decode [0x00, 0x11] = .ok (.clo, []) ∧ decode [0x00, 0x61] = .ok (.cls, []) ∧
    decode [0x00, 0x0F] = .ok (.sed, []) ∧ decode [0x00, 0x0E] = .ok (.sei, []) ∧ decode [0x00, 0x62] = .ok (.ses, [])) ∧
  (∀ s : State,
    exec .aret s = .next { s with sr := { s.sr with z := decide (s.a.toNat = 0x80FF) }, pc := pcPlus s 2 } ∧
    exec .clc s = .next { s with sr := { s.sr with c := false }, pc := pcPlus s 2 } ∧
    exec .clo s = .next { s with sr := { s.sr with o := false }, pc := pcPlus s 2 }) ∧
  (∀ s : State, s.sr.s = true →
    exec .cld s = .next { s with sr := { s.sr with d := false }, pc := pcPlus s 2 } ∧
    exec .sed s = .next { s with sr := { s.sr with d := true }, pc := pcPlus s 2 } ∧
    exec .cli s = .next { s with sr := { s.sr with i := false }, pc := pcPlus s 2 } ∧
    exec .sei s = .next { s with sr := { s.sr with i := true }, pc := pcPlus s 2 } ∧
    exec .cls s = .next { s with sr := { s.sr with s := false }, pc := pcPlus s 2 } ∧
    exec .ses s = .next { s with sr := { s.sr with s := true }, pc := pcPlus s 2 }) ∧
  (∀ (s : State) (i : Instr), i ∈ [Instr.cld, .sed, .cli, .sei, .cls, .ses] → s.sr.s = false →
    exec i s = .next (raised s (.nmi 2)))

/-- R210: a compare writes C, Z and N only; a memory operand out of bounds takes IAOOR-INR instead. (Spec decisions:
D10, D18.) -/
def Obligations.CompareFlags : Prop :=
  (∀ (s : State) (i : Instr) (r : Reg16) (y : Source), comparesWord i = some (r, y) → y.ok s →
    exec i s = .next { s with
      sr := cmpFlags 16 s.sr (s.get16 r).toNat (y.value s).toNat
      ar := y.ar s
      pc := pcPlus s y.length }) ∧
  (∀ (s : State) (i : Instr) (r : Reg8) (y : ByteSource), comparesByte i = some (r, y) → y.ok s →
    exec i s = .next { s with
      sr := cmpFlags 8 s.sr (s.get8 r).toNat (y.value s).toNat
      ar := y.ar s
      pc := pcPlus s y.length }) ∧
  (∀ (s : State) (i : Instr) (r : Reg16) (y : Source), comparesWord i = some (r, y) → ¬ y.ok s →
    exec i s = .next (iaoor s (y.ar s))) ∧
  (∀ (s : State) (i : Instr) (r : Reg8) (y : ByteSource), comparesByte i = some (r, y) → ¬ y.ok s →
    exec i s = .next (iaoor s (y.ar s)))

/-- R230, R232 to R240: a conditional jump goes to its target when its flag says so, else past itself; nothing else
changes and no address is checked (R231). (Spec decisions: D2, D3, D18.) -/
def Obligations.ConditionalJumps : Prop :=
  ∀ (s : State) (i : Instr) (c : Bool) (f : JumpForm), jumpsWhen s.sr i = some (c, f) →
    exec i s = .next { s with pc := if c = true then jumpGoal s f else pcPlus s (jumpSize f) }

/-- R230, R235: `JMP` goes to its target; the pointer of the indirect form is read unchecked and AR is not written.
(Spec decisions: D2, D3, D18.) -/
def Obligations.JumpTargets : Prop :=
  ∀ (s : State) (f : JmpForm), exec (.jmp f) s = .next { s with pc := jmpGoal s f }

/-! ## System and IO instructions -/

/-- R250, R252, R253: `CPUID` writes A, `MSB` copies the top bit into Z, every `NOP` only advances by its length.
(Spec decisions: D35, D39, D45.) -/
def Obligations.OtherInstructions : Prop :=
  ∀ s : State,
    exec .cpuid s = .next { s with a := 0x0001, pc := pcPlus s 2 } ∧
    exec (.msb .accumulator) s =
      .next { s with sr := { s.sr with z := decide (32768 ≤ s.a.toNat) }, pc := pcPlus s 2 } ∧
    exec (.msb .base) s =
      .next { s with sr := { s.sr with z := decide (32768 ≤ s.b.toNat) }, pc := pcPlus s 2 } ∧
    ∀ f : NopForm, exec (.nop f) s = .next { s with pc := pcPlus s (encode (.nop f)).length }

/-- R251: `KILL` in system mode stops the processor and leaves everything else, the PC included. (Spec decisions: D33,
D35.) -/
def Obligations.KillStops : Prop :=
  ∀ (s : State) (f : KillForm), s.sr.s = true → exec (.kill f) s = .next { s with run := .stopped }

/-- R258: `SYS` in either mode enters through 0x2008 with the PC of the `SYS` (plus the parameter) saved. (Spec
decisions: D23.) -/
def Obligations.SystemCall : Prop :=
  ∀ s : State, exec .sys s = .next (s.enter .sys (s.pc + s.cfg.syncSavedPcOffset))

/-- R259: `READ` takes one byte of the environment into AH, or BH when A holds the address, and sets N and Z; out of
bounds in user mode it takes EAOOR-INR and makes no access (R257). (Spec decisions: D20, D37, D46.) -/
def Obligations.ReadResult : Prop :=
  ∀ (s : State) (f : ReadForm),
    (s.externalOk (readFrom s f) →
      ∃ v : Byte, (∀ w rest, s.ioAnswers = w :: rest → v = w) ∧
        exec (.read f) s = .next { s.set8 (readInto f) v with
          sr := nzFlags 8 s.sr v.toNat
          ar := readFrom s f
          ioAnswers := s.ioAnswers.tail
          ioTrace := s.ioTrace ++ [.read (readFrom s f) v]
          pc := pcPlus s (readSize f) }) ∧
    (¬ s.externalOk (readFrom s f) → exec (.read f) s = .next (eaoor s (readFrom s f)))

/-- R260, R261: `WRTE` and `WRTI` hand one byte to the environment, the internal datum checked before the external
address; a check that fails makes no access. (Spec decisions: D18, D20, D37.) -/
def Obligations.WriteResult : Prop :=
  ∀ (s : State) (i : Instr) (a : Word) (y : ByteSource), writesOut s i = some (a, y) →
    (y.ok s → s.externalOk a →
      exec i s = .next { s with
        ar := a
        ioTrace := s.ioTrace ++ [.write a (y.value s)]
        pc := pcPlus s (writeSize i y) }) ∧
    (¬ y.ok s → exec i s = .next (iaoor s (y.ar s))) ∧
    (y.ok s → ¬ s.externalOk a → exec i s = .next (eaoor s a))

/-! ## Interrupts, privilege, reset -/

/-- R321: every starred instruction in user mode issues NMI with cause 2 and has no other effect. (Spec decisions:
D34, D48, D23.) -/
def Obligations.StarredTraps : Prop :=
  ∀ (s : State) (i : Instr), starred i = true → s.sr.s = false → exec i s = .next (raised s (.nmi 2))

/-- R310: what taking an interrupt saves, writes and leaves. (Spec decisions: D1, D30.) -/
def Obligations.InterruptEntry : Prop :=
  ∀ (s t : State) (k : Interrupt) (p : Word), s.mem.wf = true → t = s.enter k p →
    t.mem.wf = true ∧
    t.readCell 0x2010 = highOf p ∧ t.readCell 0x2011 = lowOf p ∧
    t.readCell 0x2012 = statusByte s.sr ∧
    t.readCell 0x2013 = highOf s.a ∧ t.readCell 0x2014 = lowOf s.a ∧
    t.readCell 0x2015 = highOf s.b ∧ t.readCell 0x2016 = lowOf s.b ∧
    (∀ x : Word, x.toNat < 0x2010 ∨ 0x2016 < x.toNat → t.readCell x = s.readCell x) ∧
    statusByte t.sr = 0x2C ∧
    t.pc = wordAt s (vectorOf k) ∧
    (match k with
      | .eirq addr data => t.b = addr ∧ t.a = wordOf (data.toNat * 256 + s.a.toNat % 256)
      | .nmi cause => t.b = s.b ∧ t.a = wordOf (s.a.toNat / 256 * 256 + cause.toNat)
      | .drInr | .iaoor | .eaoor | .spoor | .sys => t.b = s.b ∧ t.a = s.a) ∧
    t = { s with mem := t.mem, sr := t.sr, pc := t.pc, a := t.a, b := t.b }

/-- R302: RESET, from the environment or by `REST`, writes the PC, SR and the run state and nothing else; it is the
only event that a stopped processor responds to. (Spec decisions: D24, D29, D33.) -/
def Obligations.ResetEffect : Prop :=
  (∀ s : State, s.boundaryInput.reset = true →
    step s = .next { used s with
      pc := 0xFE00
      sr := ⟨false, false, true, true, true, false, false⟩
      run := .running }) ∧
  (∀ s : State, s.sr.s = true →
    exec .rest s = .next { s with
      pc := 0xFE00
      sr := ⟨false, false, true, true, true, false, false⟩
      run := .running }) ∧
  (∀ s : State, s.boundaryInput.reset = false → s.run = .stopped → step s = .next { s with inputs := s.inputs.tail })

/-- R36, R350: the values the spec gives for reset. (Spec decisions: D1, D29.) -/
def Obligations.ResetValues : Prop :=
  State.reset.pc = 0xFE00 ∧ statusByte State.reset.sr = 0x3C ∧ State.reset.run = .running ∧
    Sys2Proof.core.reset = State.reset

/-- R300: at a quiet boundary, the instruction that the bytes at the PC decode to is run, on the state whose IR holds
the opcode; DR then ticks, by `DR_TICKS` or as drawn (log 12), unless the processor stopped (R305). (Spec decisions: D2,
D25, D34.) -/
def Obligations.StepRunsInstruction : Prop :=
  ∀ (s : State) (i : Instr) (rest : List Byte), s.quietBoundary → decode s.fetchBytes = .ok (i, rest) →
    step s =
      match exec i { used s with ir := wordAt s s.pc } with
      | .next t => .next (if t.run = .running then ticked t else t)
      | .fault r => .fault r
      | .refused r => .refused r

/-- R80: a 16-bit value outside the 392 opcodes issues NMI with cause 1 and has no other effect. (Spec decisions: D23,
D25, D40.) -/
def Obligations.Unrecognised : Prop :=
  ∀ s : State, s.quietBoundary →
    (let op := (wordAt s s.pc).toNat
     op = 0x005E ∨ (0x006A ≤ op ∧ op ≤ 0x3FFB) ∨ (0x405E ≤ op ∧ op ≤ 0x7FFE) ∨ (0x80AA ≤ op ∧ op ≤ 0x80AF) ∨
       (0x80C0 ≤ op ∧ op ≤ 0x80FD) ∨ (0x8100 ≤ op ∧ op ≤ 0xFFFF)) →
    step s = .next { raised { used s with ir := wordAt s s.pc } (.nmi 1) with
      dr := s.dr - wordOf (extraOf { s with ir := wordAt s s.pc } + 1)
      drDraws := s.drDraws.tail }

/-- R305, R306, R314: DR-INR is taken at a boundary when DR is 0, or was so at an earlier decrement of the instruction
before, and D is 1, unless an EIRQ that is ready has the priority; no instruction runs and DR does not tick. An instruction
whose single decrements bring DR to 0 with D = 1 leaves DR-INR due at the next boundary, however many they are. With one
decrement an instruction nothing is remembered (R31). (Spec decisions: D24, D25, D26.) -/
def Obligations.TimerInterrupt : Prop :=
  (∀ s : State, s.boundaryInput.reset = false → s.run = .running → noNmi s → dueDrInr s →
    (s.cfg.irqPriority = .drInrFirst ∨ s.sr.i = false ∨ s.boundaryInput.eirq = none) →
    step s = .next ((used s).enter .drInr s.pc)) ∧
  (∀ (s t : State) (i : Instr) (rest : List Byte), s.quietBoundary → decode s.fetchBytes = .ok (i, rest) →
    exec i { used s with ir := wordAt s s.pc } = .next t → t.run = .running → t.sr.d = true →
    untilZero t ≤ extraOf t + 1 → ∃ u, step s = .next u ∧ dueDrInr u) ∧
  (∀ s t : State, s.drDraws = [] → s.cfg.extraTicks = [] → s.cfg.extraTicksElse = 0 → s.drHit = false →
    step s = .next t → t.drHit = false)

/-- R303, R314: a presented EIRQ is taken at a boundary when I_ is 1, unless a DR-INR that is due has the priority.
(Spec decisions: D24, D27.) -/
def Obligations.ExternalInterrupt : Prop :=
  ∀ (s : State) (addr : Word) (data : Byte), s.boundaryInput.reset = false → s.run = .running → noNmi s →
    s.boundaryInput.eirq = some (addr, data) → s.sr.i = true →
    (s.cfg.irqPriority = .eirqFirst ∨ ¬ dueDrInr s) →
    step s = .next ((used s).enter (.eirq addr data) s.pc)

/-- Log 8, the model's choice for platforms with `HAS_EXTERNAL_NMI`: after RESET and before DR-INR and EIRQ. (Spec
decisions: D28.) -/
def Obligations.ExternalNmi : Prop :=
  ∀ (s : State) (cause : Byte), s.boundaryInput.reset = false → s.run = .running → s.cfg.hasExternalNmi = true →
    s.boundaryInput.nmi = some cause → step s = .next ((used s).enter (.nmi cause) s.pc)

/-- R303: with I_ = 0 an EIRQ that is presented leaves no trace: the step is the one without it. (Spec decisions:
D27.) -/
def Obligations.MaskedRequest : Prop :=
  ∀ (s : State) (x : BoundaryInput) (rest : List BoundaryInput), s.inputs = x :: rest → s.sr.i = false →
    step s = step { s with inputs := { x with eirq := none } :: rest }

/-! ## Encoding -/

/-- Decoding an encoded instruction gives it back, with what follows it, for every form and every argument. (Spec
decisions: D4.) -/
def Obligations.DecodeOfEncode : Prop :=
  ∀ (i : Instr) (rest : List Byte), decode (encode i ++ rest) = .ok (i, rest)

/-- Bytes that decode are the encoding of what they decode to. (Spec decisions: D4.) -/
def Obligations.EncodeOfDecode : Prop :=
  ∀ (bytes rest : List Byte) (i : Instr), decode bytes = .ok (i, rest) → bytes = encode i ++ rest

/-- R80: the decoder recognises every 16-bit value but those that R80 lists. (Spec decisions: D40.) -/
def Obligations.RecognisedOpcodes : Prop :=
  ∀ op : Word,
    lookupOpcode op = none ↔
      (op.toNat = 0x005E ∨ (0x006A ≤ op.toNat ∧ op.toNat ≤ 0x3FFB) ∨ (0x405E ≤ op.toNat ∧ op.toNat ≤ 0x7FFE) ∨
        (0x80AA ≤ op.toNat ∧ op.toNat ≤ 0x80AF) ∨ (0x80C0 ≤ op.toNat ∧ op.toNat ≤ 0x80FD) ∨
        (0x8100 ≤ op.toNat ∧ op.toNat ≤ 0xFFFF))

/-- R72: in every instruction but `RET` the argument length equals the opcode's two top bits. -/
def Obligations.EncodedLength : Prop :=
  ∀ (i : Instr) (hi lo : Byte) (args : List Byte), encode i = hi :: lo :: args →
    args.length = if i = .ret then 0 else hi.toNat / 64

/-- Words written out from the spec's tables decode to what they stand for. (Spec decisions: D4, D40.) -/
def Obligations.DecodesWords : Prop :=
  decode [0x80, 0x33, 0x01, 0x02] = .ok (.ada (.imm16 0x0102), []) ∧
  decode [0x40, 0x35, 0xFF] = .ok (.sub (.mem (.zpX 0xFF)), []) ∧
  decode [0x40, 0x02, 0x10] = .ok (.psh (.mem (.zpX 0x10)), []) ∧
  decode [0x80, 0x76, 0x12, 0x34] = .ok (.nop (.op8076 0x1234), []) ∧
  decode [0x80, 0xFF] = .ok (.ret, []) ∧
  decode [0x3F, 0xFF] = .ok (.sys, []) ∧
  decode [0x80, 0xB7, 0x35, 0x00] = .ok (.semh (.abs 0x3500), []) ∧
  decode [0x00, 0x5E] = .error (.unrecognised 0x005E)

/-- An instruction whose bytes stand at the PC is what the next fetch decodes (R64, R70, R76). (Spec decisions: D4,
D16, D36.) -/
def Obligations.FetchPlaced : Prop :=
  ∀ (s : State) (i : Instr), s.mem.wf = true →
    ∃ rest, decode (s.placeBytes s.pc (encode i)).fetchBytes = .ok (i, rest)

/-! ## State: halves, SR as a byte, memory -/

/-- R10, R11: AH, AL, BH and BL are halves of A and B, not registers of their own. -/
def Obligations.HalfRegisters : Prop :=
  ∀ (s : State) (v : Byte),
    s.set8 .ah v = { s with a := wordOf (v.toNat * 256 + s.a.toNat % 256) } ∧
    s.set8 .al v = { s with a := wordOf (s.a.toNat / 256 * 256 + v.toNat) } ∧
    s.set8 .bh v = { s with b := wordOf (v.toNat * 256 + s.b.toNat % 256) } ∧
    s.set8 .bl v = { s with b := wordOf (s.b.toNat / 256 * 256 + v.toNat) } ∧
    s.get8 .ah = highOf s.a ∧ s.get8 .al = lowOf s.a ∧ s.get8 .bh = highOf s.b ∧ s.get8 .bl = lowOf s.b

/-- R23: bit 2 is 1 in every stored copy of SR, which `STSR`, `PSH` (0064) and interrupt entry make, and it is ignored in
the byte that `LDSR` or `RET` loads. -/
def Obligations.StatusBit2 : Prop :=
  (∀ (s : State) (arg : Word), s.mem.wf = true → s.internalOk arg → arg.toNat < 0xFE00 →
    ∃ t, exec (.stsr arg) s = .next t ∧ (t.readCell arg).getLsbD 2 = true) ∧
  (∀ s : State, s.mem.wf = true → s.stackOk (s.sp + 3) → s.storeOk s.sp 3 → s.sp.toNat < 0xFE00 →
    ∃ t, exec (.psh .frame) s = .next t ∧ (t.readCell s.sp).getLsbD 2 = true) ∧
  (∀ (s : State) (k : Interrupt) (p : Word), s.mem.wf = true → ((s.enter k p).readCell 0x2012).getLsbD 2 = true) ∧
  (∀ (s : State) (f : Src8 AbsIndMode), (src8 AbsIndMode.toMem f).ok s →
    ∃ t, exec (.ldsr f) s = .next t ∧ t.sr = s.sr.load ((src8 AbsIndMode.toMem f).value s)) ∧
  (∀ s : State, s.stackOk (s.sp - 3) → ∃ t, exec .ret s = .next t ∧ t.sr = s.sr.load (s.readCell (s.sp - 3))) ∧
  (∀ (f : Status) (v : Byte), f.load v = f.load (v ^^^ 0x04))

/-- R17, R22: the places of the flags in the byte, and what loading it back gives. (Spec decisions: D1, D14.) -/
def Obligations.StatusByteRoundTrip : Prop :=
  (∀ f : Status, f.toByte = statusByte f) ∧ (∀ f g : Status, f.load g.toByte = { g with s := f.s && g.s })

/-- R43, R62: a cell reads as the latest write to it; the ROM keeps its bytes; every other cell is left alone. (Spec
decisions: D17, D36.) -/
def Obligations.LatestWrite : Prop :=
  ∀ (s : State) (a x : Word) (v : Byte), s.mem.wf = true →
    (s.writeCell a v).mem.wf = true ∧
    (s.writeCell a v).readCell x = (if x = a ∧ a.toNat < 0xFE00 then v else s.readCell x)

/-- Memories in canonical form that read alike at every address are equal. -/
def Obligations.CanonicalMemory : Prop :=
  ∀ m m' : Memory, m.wf = true → m'.wf = true → (∀ a, m.read a = m'.read a) → m = m'

/-! ## The whole machine -/

/-- Right after reset memory is in canonical form and no hit of DR-INR is remembered. -/
def Obligations.ResetInvariant : Prop := State.reset.Inv

/-- Every step keeps the canonical form of memory, and leaves a hit of DR-INR's condition remembered only with D = 1 in a
running processor (R305, R306). (Spec decisions: D25, D26, D33.) -/
def Obligations.StepKeepsInvariant : Prop :=
  ∀ s t : State, s.Inv → step s = .next t → t.Inv

/-- R34: an instruction writes no flag outside its row of the table, unless it ends in an interrupt; `LDSR` and `RET`
never raise S (R22). (Spec decisions: D12, D14.) -/
def Obligations.FlagTable : Prop :=
  ∀ (i : Instr) (s t : State), exec i s = .next t →
    (agreesOutside (writable i) s.sr t.sr ∧ (t.sr.s = true → s.sr.s = true)) ∨
    (∃ (k : Interrupt) (a : Word), t = raised { s with ar := a } k) ∨
    (i = .rest ∧ s.sr.s = true)

/-- R79: an instruction that completes and is no jump, `RET`, `REST`, `SYS` or `KILL` moves the PC by the length of
its encoding. (Spec decisions: D2, D16, D33.) -/
def Obligations.PcAdvance : Prop :=
  ∀ (i : Instr) (s t : State), writesPc i = false → exec i s = .next t →
    t.pc = pcPlus s (encode i).length ∨ ∃ (k : Interrupt) (a : Word), t = raised { s with ar := a } k

/-- R22: "the only ways from user mode to system mode are an interrupt (including `SYS`) and reset": after such a step
the PC comes from a vector, SR is 0x2C and the old SR is in the save area, or the step was a RESET. (Spec decisions:
D14, D30.) -/
def Obligations.UserToSystem : Prop :=
  ∀ s t : State, s.mem.wf = true → s.sr.s = false → step s = .next t → t.sr.s = true →
    (∃ k : Interrupt, t.pc = wordAt s (vectorOf k) ∧ statusByte t.sr = 0x2C ∧ t.readCell 0x2012 = statusByte s.sr) ∨
    (s.boundaryInput.reset = true ∧ t.pc = 0xFE00 ∧ statusByte t.sr = 0x3C)

/-- R68, R366: in user mode, with the internal bounds below the ROM, a step changes no cell outside [IMLI, IMHI] but
the one after IMHI (the second byte of a word is not checked) and the save area of an interrupt. (Spec decisions: D17,
D18, D21, D30.) -/
def Obligations.UserStores : Prop :=
  ∀ s t : State, s.mem.wf = true → s.sr.s = false → s.imhi.toNat < 0xFE00 → step s = .next t →
    ∀ x : Word, t.readCell x ≠ s.readCell x →
      (s.imli.toNat ≤ x.toNat ∧ x.toNat ≤ s.imhi.toNat + 1) ∨
      (0x2010 ≤ x.toNat ∧ x.toNat ≤ 0x2016 ∧ t.sr.s = true)

/-- R65, R68: a step makes at most one IO access, and in user mode only inside [EMLI, EMHI]. (Spec decisions: D20,
D37.) -/
def Obligations.IoConfined : Prop :=
  ∀ s t : State, step s = .next t →
    t.ioTrace = s.ioTrace ∨
      ∃ e : IoEvent, t.ioTrace = s.ioTrace ++ [e] ∧
        (s.sr.s = false → s.emli.toNat ≤ (eventAddress e).toNat ∧ (eventAddress e).toNat ≤ s.emhi.toNat)

/-- R32, R320: no step taken in user mode writes a bound register, and DR moves only by its own tick; no step at all
changes the parameters. (Spec decisions: D14, D25, D34.) -/
def Obligations.UserLeavesBounds : Prop :=
  ∀ s t : State, step s = .next t →
    t.cfg = s.cfg ∧
    (s.sr.s = false →
      t.imli = s.imli ∧ t.imhi = s.imhi ∧ t.emli = s.emli ∧ t.emhi = s.emhi ∧
        (t.dr = s.dr ∨ t.dr = s.dr - wordOf (extraOf { s with ir := wordAt s s.pc } + 1)))

/-- With `ROM_WRITE = ignore` every step, from every state, has a next state; and no step is ever refused. -/
def Obligations.StepTotal : Prop :=
  (∀ s : State, s.cfg.romWrite = .ignore → ∃ t, step s = .next t) ∧ (∀ (s : State) (r : Refusal), step s ≠ .refused r)

/-- R30, R327: a stopped processor stays as it is, however many boundaries pass, until RESET is asserted. (Spec
decisions: D33.) -/
def Obligations.StaysStopped : Prop :=
  ∀ (n : Nat) (s : State), s.run = .stopped → (∀ x ∈ s.inputs, x.reset = false) →
    Host.Core.run Sys2Proof.core n s = .next { s with inputs := s.inputs.drop n }

end
end

