-- ==== Sys2Proof/Laws/Memory.lean ====
section
/-! SUPPORT. The laws of the cell list: what a read sees after a write, and that every memory operation keeps the
canonical form. -/

namespace Sys2Proof.Machine

@[simp] theorem Memory.read_nil (a : Nat) : Memory.read [] a = Config.unlistedByte := rfl

/-- Below its lower bound a canonical list reads as unlisted. -/
theorem Memory.read_below {lo : Nat} {m : Memory} (h : m.wfFrom lo = true) {a : Nat} (ha : a < lo) :
    m.read a = Config.unlistedByte := by
  induction m generalizing lo with
  | nil => rfl
  | cons c rest ih =>
    obtain ⟨k, v⟩ := c
    simp only [Memory.wfFrom, Bool.and_eq_true, decide_eq_true_eq] at h
    have hk : (k == a) = false := by simp; omega
    simp only [Memory.read, hk]
    exact ih h.2 (by omega)

/-- A lower bound may be lowered. -/
theorem Memory.wfFrom_mono {lo lo' : Nat} {m : Memory} (h : m.wfFrom lo = true) (hl : lo' ≤ lo) :
    m.wfFrom lo' = true := by
  cases m with
  | nil => rfl
  | cons c rest =>
    obtain ⟨k, v⟩ := c
    simp only [Memory.wfFrom, Bool.and_eq_true, decide_eq_true_eq] at h ⊢
    exact ⟨⟨⟨by omega, h.1.1.2⟩, h.1.2⟩, h.2⟩

/-- Putting a cell in front keeps the canonical form. -/
theorem Memory.cons_wfFrom {lo a : Nat} {v : Byte} {m : Memory} (h : m.wfFrom (a + 1) = true) (hlo : lo ≤ a)
    (ha : a < 0x10000) : (Memory.cons a v m).wfFrom lo = true := by
  unfold Memory.cons
  split
  · exact Memory.wfFrom_mono h (by omega)
  · rename_i hv
    simp only [Memory.wfFrom, Bool.and_eq_true, decide_eq_true_eq]
    refine ⟨⟨⟨hlo, ha⟩, ?_⟩, h⟩
    simpa using hv

/-- A read of the cell just put in front. -/
theorem Memory.read_cons_self {a : Nat} {v : Byte} {m : Memory} (h : m.wfFrom (a + 1) = true) :
    (Memory.cons a v m).read a = v := by
  unfold Memory.cons
  split
  · rename_i hv
    rw [Memory.read_below h (Nat.lt_succ_self a)]
    exact (eq_of_beq hv).symm
  · simp [Memory.read]

/-- A read of another cell than the one just put in front. -/
theorem Memory.read_cons_of_ne {a b : Nat} {v : Byte} {m : Memory} (h : b ≠ a) :
    (Memory.cons a v m).read b = m.read b := by
  unfold Memory.cons
  split
  · rfl
  · have : (a == b) = false := by simp; omega
    simp [Memory.read, this]

/-- A write keeps the canonical form above any bound not higher than the address. -/
theorem Memory.write_wfFrom {lo a : Nat} {m : Memory} (v : Byte) (h : m.wfFrom lo = true) (hlo : lo ≤ a)
    (ha : a < 0x10000) : (m.write a v).wfFrom lo = true := by
  induction m generalizing lo with
  | nil => exact Memory.cons_wfFrom rfl hlo ha
  | cons c rest ih =>
    obtain ⟨k, x⟩ := c
    have h' := h
    simp only [Memory.wfFrom, Bool.and_eq_true, decide_eq_true_eq] at h'
    simp only [Memory.write]
    split
    · refine Memory.cons_wfFrom ?_ hlo ha
      simp only [Memory.wfFrom, Bool.and_eq_true, decide_eq_true_eq]
      exact ⟨⟨⟨by omega, h'.1.1.2⟩, h'.1.2⟩, h'.2⟩
    · split
      · rename_i hk
        have hk := eq_of_beq hk
        subst hk
        exact Memory.cons_wfFrom h'.2 hlo ha
      · rename_i hk
        have hk : a ≠ k := by simpa using hk
        simp only [Memory.wfFrom, Bool.and_eq_true, decide_eq_true_eq]
        exact ⟨h'.1, ih h'.2 (by omega)⟩

/-- A write inside the address space keeps the canonical form. -/
theorem Memory.write_wf {m : Memory} {a : Nat} (v : Byte) (h : m.wf = true) (ha : a < 0x10000) :
    (m.write a v).wf = true :=
  Memory.write_wfFrom v h (Nat.zero_le a) ha

/-- Reading the address just written. -/
theorem Memory.read_write_self_from {lo a : Nat} {m : Memory} (v : Byte) (h : m.wfFrom lo = true) :
    (m.write a v).read a = v := by
  induction m generalizing lo with
  | nil => exact Memory.read_cons_self rfl
  | cons c rest ih =>
    obtain ⟨k, x⟩ := c
    have h' := h
    simp only [Memory.wfFrom, Bool.and_eq_true, decide_eq_true_eq] at h'
    simp only [Memory.write]
    split
    · refine Memory.read_cons_self ?_
      simp only [Memory.wfFrom, Bool.and_eq_true, decide_eq_true_eq]
      exact ⟨⟨⟨by omega, h'.1.1.2⟩, h'.1.2⟩, h'.2⟩
    · split
      · rename_i hk
        have hk := eq_of_beq hk
        subst hk
        exact Memory.read_cons_self h'.2
      · rename_i hk
        have hk : (k == a) = false := by simp at hk ⊢; omega
        simp only [Memory.read, hk]
        exact ih h'.2

/-- Reading the address just written. -/
theorem Memory.read_write_self {m : Memory} {a : Nat} (v : Byte) (h : m.wf = true) : (m.write a v).read a = v :=
  Memory.read_write_self_from v h

/-- A write leaves every other address alone. -/
theorem Memory.read_write_of_ne {m : Memory} {a b : Nat} (v : Byte) (hb : b ≠ a) :
    (m.write a v).read b = m.read b := by
  induction m with
  | nil => exact Memory.read_cons_of_ne hb
  | cons c rest ih =>
    obtain ⟨k, x⟩ := c
    simp only [Memory.write]
    split
    · exact Memory.read_cons_of_ne hb
    · split
      · rename_i hk
        have hk := eq_of_beq hk
        subst hk
        rw [Memory.read_cons_of_ne hb]
        have : (a == b) = false := by simp; omega
        simp [Memory.read, this]
      · simp only [Memory.read]
        split
        · rfl
        · exact ih

/-- What a read sees after a write. -/
theorem Memory.read_write {m : Memory} {a b : Nat} (v : Byte) (h : m.wf = true) :
    (m.write a v).read b = if b = a then v else m.read b := by
  split
  · rename_i hb; rw [hb]; exact Memory.read_write_self v h
  · rename_i hb; exact Memory.read_write_of_ne v hb

/-! ## Cells and words of a state -/

/-- A store keeps the canonical form. -/
theorem State.writeCell_wf {s : State} (a : Word) (v : Byte) (h : s.mem.wf = true) :
    (s.writeCell a v).mem.wf = true := by
  unfold State.writeCell
  split
  · exact h
  · exact Memory.write_wf v h (by have := a.isLt; simpa using this)

/-- What a cell holds after a store to a cell: the ROM keeps its bytes (R43). -/
theorem State.readCell_writeCell {s : State} (a x : Word) (v : Byte) (h : s.mem.wf = true) :
    (s.writeCell a v).readCell x = if x = a ∧ inRom a = false then v else s.readCell x := by
  unfold State.writeCell State.readCell
  split
  · rename_i hr; simp [hr]
  · rename_i hr
    simp only [Memory.read_write v h]
    by_cases hx : x = a
    · subst hx; simp [hr]
    · have : x.toNat ≠ a.toNat := fun e => hx (BitVec.eq_of_toNat_eq e)
      simp [hx, this]

/-- A store of a word keeps the canonical form. -/
theorem State.writeWord_wf {s : State} (a v : Word) (h : s.mem.wf = true) : (s.writeWord a v).mem.wf = true :=
  State.writeCell_wf _ _ (State.writeCell_wf _ _ h)

/-- A store of a cell changes memory only. -/
theorem State.writeCell_eq (s : State) (a : Word) (v : Byte) :
    s.writeCell a v = { s with mem := (s.writeCell a v).mem } := by
  unfold State.writeCell
  split <;> rfl

/-- A store of a word changes memory only. -/
theorem State.writeWord_eq (s : State) (a v : Word) :
    s.writeWord a v = { s with mem := (s.writeWord a v).mem } := by
  unfold State.writeWord
  rw [State.writeCell_eq, State.writeCell_eq s]

/-- The memory right after reset is canonical. -/
theorem reset_mem_wf : State.reset.mem.wf = true := rfl

end Sys2Proof.Machine
end

