-- ==== Sys2Proof/Laws/State.lean ====
section
/-! SUPPORT. One lemma for each field of the state and each named update of it, so that no proof unfolds an update. -/

namespace Sys2Proof.Machine

/-! ## Halves of a word (R10, R42) -/

@[simp] theorem hiByte_joinBytes (h l : Byte) : hiByte (joinBytes h l) = h := by
  apply BitVec.eq_of_getLsbD_eq
  intro i hi
  simp only [hiByte, joinBytes, BitVec.getLsbD_extractLsb', BitVec.getLsbD_append]
  have e : ¬ (8 + i < 8) := by omega
  have e' : 8 + i - 8 = i := by omega
  simp [hi, e']

@[simp] theorem loByte_joinBytes (h l : Byte) : loByte (joinBytes h l) = l := by
  apply BitVec.eq_of_getLsbD_eq
  intro i hi
  simp only [loByte, joinBytes, BitVec.getLsbD_extractLsb', BitVec.getLsbD_append]
  simp [hi]

@[simp] theorem joinBytes_hi_lo (w : Word) : joinBytes (hiByte w) (loByte w) = w := by
  apply BitVec.eq_of_getLsbD_eq
  intro i hi
  simp only [hiByte, loByte, joinBytes, BitVec.getLsbD_append, BitVec.getLsbD_extractLsb']
  by_cases h : i < 8
  · simp [h]
  · have : i - 8 < 8 := by omega
    have e : 8 + (i - 8) = i := by omega
    simp [h, this, e]


/-! ## `withSr` -/

@[simp] theorem State.withSr_a (s : State) (f : Status) : (s.withSr f).a = s.a := rfl
@[simp] theorem State.withSr_b (s : State) (f : Status) : (s.withSr f).b = s.b := rfl
@[simp] theorem State.withSr_i (s : State) (f : Status) : (s.withSr f).i = s.i := rfl
@[simp] theorem State.withSr_j (s : State) (f : Status) : (s.withSr f).j = s.j := rfl
@[simp] theorem State.withSr_sp (s : State) (f : Status) : (s.withSr f).sp = s.sp := rfl
@[simp] theorem State.withSr_pc (s : State) (f : Status) : (s.withSr f).pc = s.pc := rfl
@[simp] theorem State.withSr_sr (s : State) (f : Status) : (s.withSr f).sr = f := rfl
@[simp] theorem State.withSr_dr (s : State) (f : Status) : (s.withSr f).dr = s.dr := rfl
@[simp] theorem State.withSr_drHit (s : State) (f : Status) : (s.withSr f).drHit = s.drHit := rfl
@[simp] theorem State.withSr_imli (s : State) (f : Status) : (s.withSr f).imli = s.imli := rfl
@[simp] theorem State.withSr_imhi (s : State) (f : Status) : (s.withSr f).imhi = s.imhi := rfl
@[simp] theorem State.withSr_emli (s : State) (f : Status) : (s.withSr f).emli = s.emli := rfl
@[simp] theorem State.withSr_emhi (s : State) (f : Status) : (s.withSr f).emhi = s.emhi := rfl
@[simp] theorem State.withSr_ar (s : State) (f : Status) : (s.withSr f).ar = s.ar := rfl
@[simp] theorem State.withSr_ir (s : State) (f : Status) : (s.withSr f).ir = s.ir := rfl
@[simp] theorem State.withSr_run (s : State) (f : Status) : (s.withSr f).run = s.run := rfl
@[simp] theorem State.withSr_mem (s : State) (f : Status) : (s.withSr f).mem = s.mem := rfl
@[simp] theorem State.withSr_ioAnswers (s : State) (f : Status) : (s.withSr f).ioAnswers = s.ioAnswers := rfl
@[simp] theorem State.withSr_ioTrace (s : State) (f : Status) : (s.withSr f).ioTrace = s.ioTrace := rfl
@[simp] theorem State.withSr_inputs (s : State) (f : Status) : (s.withSr f).inputs = s.inputs := rfl
@[simp] theorem State.withSr_drDraws (s : State) (f : Status) : (s.withSr f).drDraws = s.drDraws := rfl
@[simp] theorem State.withSr_cfg (s : State) (f : Status) : (s.withSr f).cfg = s.cfg := rfl

/-! ## `withPc` -/

@[simp] theorem State.withPc_a (s : State) (v : Word) : (s.withPc v).a = s.a := rfl
@[simp] theorem State.withPc_b (s : State) (v : Word) : (s.withPc v).b = s.b := rfl
@[simp] theorem State.withPc_i (s : State) (v : Word) : (s.withPc v).i = s.i := rfl
@[simp] theorem State.withPc_j (s : State) (v : Word) : (s.withPc v).j = s.j := rfl
@[simp] theorem State.withPc_sp (s : State) (v : Word) : (s.withPc v).sp = s.sp := rfl
@[simp] theorem State.withPc_pc (s : State) (v : Word) : (s.withPc v).pc = v := rfl
@[simp] theorem State.withPc_sr (s : State) (v : Word) : (s.withPc v).sr = s.sr := rfl
@[simp] theorem State.withPc_dr (s : State) (v : Word) : (s.withPc v).dr = s.dr := rfl
@[simp] theorem State.withPc_drHit (s : State) (v : Word) : (s.withPc v).drHit = s.drHit := rfl
@[simp] theorem State.withPc_imli (s : State) (v : Word) : (s.withPc v).imli = s.imli := rfl
@[simp] theorem State.withPc_imhi (s : State) (v : Word) : (s.withPc v).imhi = s.imhi := rfl
@[simp] theorem State.withPc_emli (s : State) (v : Word) : (s.withPc v).emli = s.emli := rfl
@[simp] theorem State.withPc_emhi (s : State) (v : Word) : (s.withPc v).emhi = s.emhi := rfl
@[simp] theorem State.withPc_ar (s : State) (v : Word) : (s.withPc v).ar = s.ar := rfl
@[simp] theorem State.withPc_ir (s : State) (v : Word) : (s.withPc v).ir = s.ir := rfl
@[simp] theorem State.withPc_run (s : State) (v : Word) : (s.withPc v).run = s.run := rfl
@[simp] theorem State.withPc_mem (s : State) (v : Word) : (s.withPc v).mem = s.mem := rfl
@[simp] theorem State.withPc_ioAnswers (s : State) (v : Word) : (s.withPc v).ioAnswers = s.ioAnswers := rfl
@[simp] theorem State.withPc_ioTrace (s : State) (v : Word) : (s.withPc v).ioTrace = s.ioTrace := rfl
@[simp] theorem State.withPc_inputs (s : State) (v : Word) : (s.withPc v).inputs = s.inputs := rfl
@[simp] theorem State.withPc_drDraws (s : State) (v : Word) : (s.withPc v).drDraws = s.drDraws := rfl
@[simp] theorem State.withPc_cfg (s : State) (v : Word) : (s.withPc v).cfg = s.cfg := rfl

/-! ## `withAr` -/

@[simp] theorem State.withAr_a (s : State) (v : Word) : (s.withAr v).a = s.a := rfl
@[simp] theorem State.withAr_b (s : State) (v : Word) : (s.withAr v).b = s.b := rfl
@[simp] theorem State.withAr_i (s : State) (v : Word) : (s.withAr v).i = s.i := rfl
@[simp] theorem State.withAr_j (s : State) (v : Word) : (s.withAr v).j = s.j := rfl
@[simp] theorem State.withAr_sp (s : State) (v : Word) : (s.withAr v).sp = s.sp := rfl
@[simp] theorem State.withAr_pc (s : State) (v : Word) : (s.withAr v).pc = s.pc := rfl
@[simp] theorem State.withAr_sr (s : State) (v : Word) : (s.withAr v).sr = s.sr := rfl
@[simp] theorem State.withAr_dr (s : State) (v : Word) : (s.withAr v).dr = s.dr := rfl
@[simp] theorem State.withAr_drHit (s : State) (v : Word) : (s.withAr v).drHit = s.drHit := rfl
@[simp] theorem State.withAr_imli (s : State) (v : Word) : (s.withAr v).imli = s.imli := rfl
@[simp] theorem State.withAr_imhi (s : State) (v : Word) : (s.withAr v).imhi = s.imhi := rfl
@[simp] theorem State.withAr_emli (s : State) (v : Word) : (s.withAr v).emli = s.emli := rfl
@[simp] theorem State.withAr_emhi (s : State) (v : Word) : (s.withAr v).emhi = s.emhi := rfl
@[simp] theorem State.withAr_ar (s : State) (v : Word) : (s.withAr v).ar = v := rfl
@[simp] theorem State.withAr_ir (s : State) (v : Word) : (s.withAr v).ir = s.ir := rfl
@[simp] theorem State.withAr_run (s : State) (v : Word) : (s.withAr v).run = s.run := rfl
@[simp] theorem State.withAr_mem (s : State) (v : Word) : (s.withAr v).mem = s.mem := rfl
@[simp] theorem State.withAr_ioAnswers (s : State) (v : Word) : (s.withAr v).ioAnswers = s.ioAnswers := rfl
@[simp] theorem State.withAr_ioTrace (s : State) (v : Word) : (s.withAr v).ioTrace = s.ioTrace := rfl
@[simp] theorem State.withAr_inputs (s : State) (v : Word) : (s.withAr v).inputs = s.inputs := rfl
@[simp] theorem State.withAr_drDraws (s : State) (v : Word) : (s.withAr v).drDraws = s.drDraws := rfl
@[simp] theorem State.withAr_cfg (s : State) (v : Word) : (s.withAr v).cfg = s.cfg := rfl

/-! ## `withIr` -/

@[simp] theorem State.withIr_a (s : State) (v : Word) : (s.withIr v).a = s.a := rfl
@[simp] theorem State.withIr_b (s : State) (v : Word) : (s.withIr v).b = s.b := rfl
@[simp] theorem State.withIr_i (s : State) (v : Word) : (s.withIr v).i = s.i := rfl
@[simp] theorem State.withIr_j (s : State) (v : Word) : (s.withIr v).j = s.j := rfl
@[simp] theorem State.withIr_sp (s : State) (v : Word) : (s.withIr v).sp = s.sp := rfl
@[simp] theorem State.withIr_pc (s : State) (v : Word) : (s.withIr v).pc = s.pc := rfl
@[simp] theorem State.withIr_sr (s : State) (v : Word) : (s.withIr v).sr = s.sr := rfl
@[simp] theorem State.withIr_dr (s : State) (v : Word) : (s.withIr v).dr = s.dr := rfl
@[simp] theorem State.withIr_drHit (s : State) (v : Word) : (s.withIr v).drHit = s.drHit := rfl
@[simp] theorem State.withIr_imli (s : State) (v : Word) : (s.withIr v).imli = s.imli := rfl
@[simp] theorem State.withIr_imhi (s : State) (v : Word) : (s.withIr v).imhi = s.imhi := rfl
@[simp] theorem State.withIr_emli (s : State) (v : Word) : (s.withIr v).emli = s.emli := rfl
@[simp] theorem State.withIr_emhi (s : State) (v : Word) : (s.withIr v).emhi = s.emhi := rfl
@[simp] theorem State.withIr_ar (s : State) (v : Word) : (s.withIr v).ar = s.ar := rfl
@[simp] theorem State.withIr_ir (s : State) (v : Word) : (s.withIr v).ir = v := rfl
@[simp] theorem State.withIr_run (s : State) (v : Word) : (s.withIr v).run = s.run := rfl
@[simp] theorem State.withIr_mem (s : State) (v : Word) : (s.withIr v).mem = s.mem := rfl
@[simp] theorem State.withIr_ioAnswers (s : State) (v : Word) : (s.withIr v).ioAnswers = s.ioAnswers := rfl
@[simp] theorem State.withIr_ioTrace (s : State) (v : Word) : (s.withIr v).ioTrace = s.ioTrace := rfl
@[simp] theorem State.withIr_inputs (s : State) (v : Word) : (s.withIr v).inputs = s.inputs := rfl
@[simp] theorem State.withIr_drDraws (s : State) (v : Word) : (s.withIr v).drDraws = s.drDraws := rfl
@[simp] theorem State.withIr_cfg (s : State) (v : Word) : (s.withIr v).cfg = s.cfg := rfl

/-! ## `set16` -/

@[simp] theorem State.set16_j (s : State) (r : Reg16) (v : Word) : (s.set16 r v).j = s.j := by
  cases r <;> rfl
@[simp] theorem State.set16_pc (s : State) (r : Reg16) (v : Word) : (s.set16 r v).pc = s.pc := by
  cases r <;> rfl
@[simp] theorem State.set16_sr (s : State) (r : Reg16) (v : Word) : (s.set16 r v).sr = s.sr := by
  cases r <;> rfl
@[simp] theorem State.set16_drHit (s : State) (r : Reg16) (v : Word) : (s.set16 r v).drHit = s.drHit := by
  cases r <;> rfl
@[simp] theorem State.set16_ar (s : State) (r : Reg16) (v : Word) : (s.set16 r v).ar = s.ar := by
  cases r <;> rfl
@[simp] theorem State.set16_ir (s : State) (r : Reg16) (v : Word) : (s.set16 r v).ir = s.ir := by
  cases r <;> rfl
@[simp] theorem State.set16_run (s : State) (r : Reg16) (v : Word) : (s.set16 r v).run = s.run := by
  cases r <;> rfl
@[simp] theorem State.set16_mem (s : State) (r : Reg16) (v : Word) : (s.set16 r v).mem = s.mem := by
  cases r <;> rfl
@[simp] theorem State.set16_ioAnswers (s : State) (r : Reg16) (v : Word) : (s.set16 r v).ioAnswers = s.ioAnswers := by
  cases r <;> rfl
@[simp] theorem State.set16_ioTrace (s : State) (r : Reg16) (v : Word) : (s.set16 r v).ioTrace = s.ioTrace := by
  cases r <;> rfl
@[simp] theorem State.set16_inputs (s : State) (r : Reg16) (v : Word) : (s.set16 r v).inputs = s.inputs := by
  cases r <;> rfl
@[simp] theorem State.set16_drDraws (s : State) (r : Reg16) (v : Word) : (s.set16 r v).drDraws = s.drDraws := by
  cases r <;> rfl
@[simp] theorem State.set16_cfg (s : State) (r : Reg16) (v : Word) : (s.set16 r v).cfg = s.cfg := by
  cases r <;> rfl

/-- The register written reads as the value written. -/
@[simp] theorem State.get16_set16_self (s : State) (r : Reg16) (v : Word) : (s.set16 r v).get16 r = v := by
  cases r <;> rfl

/-- Every other register is unchanged. -/
theorem State.get16_set16_of_ne (s : State) {r q : Reg16} (v : Word) (h : q ≠ r) :
    (s.set16 r v).get16 q = s.get16 q := by
  cases r <;> cases q <;> first | rfl | exact absurd rfl h

/-! ## `set8` -/

@[simp] theorem State.set8_i (s : State) (r : Reg8) (v : Byte) : (s.set8 r v).i = s.i := by
  cases r <;> rfl
@[simp] theorem State.set8_sp (s : State) (r : Reg8) (v : Byte) : (s.set8 r v).sp = s.sp := by
  cases r <;> rfl
@[simp] theorem State.set8_pc (s : State) (r : Reg8) (v : Byte) : (s.set8 r v).pc = s.pc := by
  cases r <;> rfl
@[simp] theorem State.set8_sr (s : State) (r : Reg8) (v : Byte) : (s.set8 r v).sr = s.sr := by
  cases r <;> rfl
@[simp] theorem State.set8_dr (s : State) (r : Reg8) (v : Byte) : (s.set8 r v).dr = s.dr := by
  cases r <;> rfl
@[simp] theorem State.set8_drHit (s : State) (r : Reg8) (v : Byte) : (s.set8 r v).drHit = s.drHit := by
  cases r <;> rfl
@[simp] theorem State.set8_imli (s : State) (r : Reg8) (v : Byte) : (s.set8 r v).imli = s.imli := by
  cases r <;> rfl
@[simp] theorem State.set8_imhi (s : State) (r : Reg8) (v : Byte) : (s.set8 r v).imhi = s.imhi := by
  cases r <;> rfl
@[simp] theorem State.set8_emli (s : State) (r : Reg8) (v : Byte) : (s.set8 r v).emli = s.emli := by
  cases r <;> rfl
@[simp] theorem State.set8_emhi (s : State) (r : Reg8) (v : Byte) : (s.set8 r v).emhi = s.emhi := by
  cases r <;> rfl
@[simp] theorem State.set8_ar (s : State) (r : Reg8) (v : Byte) : (s.set8 r v).ar = s.ar := by
  cases r <;> rfl
@[simp] theorem State.set8_ir (s : State) (r : Reg8) (v : Byte) : (s.set8 r v).ir = s.ir := by
  cases r <;> rfl
@[simp] theorem State.set8_run (s : State) (r : Reg8) (v : Byte) : (s.set8 r v).run = s.run := by
  cases r <;> rfl
@[simp] theorem State.set8_mem (s : State) (r : Reg8) (v : Byte) : (s.set8 r v).mem = s.mem := by
  cases r <;> rfl
@[simp] theorem State.set8_ioAnswers (s : State) (r : Reg8) (v : Byte) : (s.set8 r v).ioAnswers = s.ioAnswers := by
  cases r <;> rfl
@[simp] theorem State.set8_ioTrace (s : State) (r : Reg8) (v : Byte) : (s.set8 r v).ioTrace = s.ioTrace := by
  cases r <;> rfl
@[simp] theorem State.set8_inputs (s : State) (r : Reg8) (v : Byte) : (s.set8 r v).inputs = s.inputs := by
  cases r <;> rfl
@[simp] theorem State.set8_drDraws (s : State) (r : Reg8) (v : Byte) : (s.set8 r v).drDraws = s.drDraws := by
  cases r <;> rfl
@[simp] theorem State.set8_cfg (s : State) (r : Reg8) (v : Byte) : (s.set8 r v).cfg = s.cfg := by
  cases r <;> rfl

/-- The half register or J written reads as the value written. -/
@[simp] theorem State.get8_set8_self (s : State) (r : Reg8) (v : Byte) : (s.set8 r v).get8 r = v := by
  cases r <;> simp [State.set8, State.get8]

/-- Every other half register, and J, is unchanged. -/
theorem State.get8_set8_of_ne (s : State) {r q : Reg8} (v : Byte) (h : q ≠ r) : (s.set8 r v).get8 q = s.get8 q := by
  cases r <;> cases q <;> first | exact absurd rfl h | simp [State.set8, State.get8]

/-! ## `writeCell` -/

@[simp] theorem State.writeCell_a (s : State) (x : Word) (v : Byte) : (s.writeCell x v).a = s.a := by
  unfold State.writeCell; split <;> rfl
@[simp] theorem State.writeCell_b (s : State) (x : Word) (v : Byte) : (s.writeCell x v).b = s.b := by
  unfold State.writeCell; split <;> rfl
@[simp] theorem State.writeCell_i (s : State) (x : Word) (v : Byte) : (s.writeCell x v).i = s.i := by
  unfold State.writeCell; split <;> rfl
@[simp] theorem State.writeCell_j (s : State) (x : Word) (v : Byte) : (s.writeCell x v).j = s.j := by
  unfold State.writeCell; split <;> rfl
@[simp] theorem State.writeCell_sp (s : State) (x : Word) (v : Byte) : (s.writeCell x v).sp = s.sp := by
  unfold State.writeCell; split <;> rfl
@[simp] theorem State.writeCell_pc (s : State) (x : Word) (v : Byte) : (s.writeCell x v).pc = s.pc := by
  unfold State.writeCell; split <;> rfl
@[simp] theorem State.writeCell_sr (s : State) (x : Word) (v : Byte) : (s.writeCell x v).sr = s.sr := by
  unfold State.writeCell; split <;> rfl
@[simp] theorem State.writeCell_dr (s : State) (x : Word) (v : Byte) : (s.writeCell x v).dr = s.dr := by
  unfold State.writeCell; split <;> rfl
@[simp] theorem State.writeCell_drHit (s : State) (x : Word) (v : Byte) : (s.writeCell x v).drHit = s.drHit := by
  unfold State.writeCell; split <;> rfl
@[simp] theorem State.writeCell_imli (s : State) (x : Word) (v : Byte) : (s.writeCell x v).imli = s.imli := by
  unfold State.writeCell; split <;> rfl
@[simp] theorem State.writeCell_imhi (s : State) (x : Word) (v : Byte) : (s.writeCell x v).imhi = s.imhi := by
  unfold State.writeCell; split <;> rfl
@[simp] theorem State.writeCell_emli (s : State) (x : Word) (v : Byte) : (s.writeCell x v).emli = s.emli := by
  unfold State.writeCell; split <;> rfl
@[simp] theorem State.writeCell_emhi (s : State) (x : Word) (v : Byte) : (s.writeCell x v).emhi = s.emhi := by
  unfold State.writeCell; split <;> rfl
@[simp] theorem State.writeCell_ar (s : State) (x : Word) (v : Byte) : (s.writeCell x v).ar = s.ar := by
  unfold State.writeCell; split <;> rfl
@[simp] theorem State.writeCell_ir (s : State) (x : Word) (v : Byte) : (s.writeCell x v).ir = s.ir := by
  unfold State.writeCell; split <;> rfl
@[simp] theorem State.writeCell_run (s : State) (x : Word) (v : Byte) : (s.writeCell x v).run = s.run := by
  unfold State.writeCell; split <;> rfl
@[simp] theorem State.writeCell_ioAnswers (s : State) (x : Word) (v : Byte) : (s.writeCell x v).ioAnswers = s.ioAnswers := by
  unfold State.writeCell; split <;> rfl
@[simp] theorem State.writeCell_ioTrace (s : State) (x : Word) (v : Byte) : (s.writeCell x v).ioTrace = s.ioTrace := by
  unfold State.writeCell; split <;> rfl
@[simp] theorem State.writeCell_inputs (s : State) (x : Word) (v : Byte) : (s.writeCell x v).inputs = s.inputs := by
  unfold State.writeCell; split <;> rfl
@[simp] theorem State.writeCell_drDraws (s : State) (x : Word) (v : Byte) : (s.writeCell x v).drDraws = s.drDraws := by
  unfold State.writeCell; split <;> rfl
@[simp] theorem State.writeCell_cfg (s : State) (x : Word) (v : Byte) : (s.writeCell x v).cfg = s.cfg := by
  unfold State.writeCell; split <;> rfl

/-! ## `writeWord` -/

@[simp] theorem State.writeWord_a (s : State) (x v : Word) : (s.writeWord x v).a = s.a := by
  simp [State.writeWord]
@[simp] theorem State.writeWord_b (s : State) (x v : Word) : (s.writeWord x v).b = s.b := by
  simp [State.writeWord]
@[simp] theorem State.writeWord_i (s : State) (x v : Word) : (s.writeWord x v).i = s.i := by
  simp [State.writeWord]
@[simp] theorem State.writeWord_j (s : State) (x v : Word) : (s.writeWord x v).j = s.j := by
  simp [State.writeWord]
@[simp] theorem State.writeWord_sp (s : State) (x v : Word) : (s.writeWord x v).sp = s.sp := by
  simp [State.writeWord]
@[simp] theorem State.writeWord_pc (s : State) (x v : Word) : (s.writeWord x v).pc = s.pc := by
  simp [State.writeWord]
@[simp] theorem State.writeWord_sr (s : State) (x v : Word) : (s.writeWord x v).sr = s.sr := by
  simp [State.writeWord]
@[simp] theorem State.writeWord_dr (s : State) (x v : Word) : (s.writeWord x v).dr = s.dr := by
  simp [State.writeWord]
@[simp] theorem State.writeWord_drHit (s : State) (x v : Word) : (s.writeWord x v).drHit = s.drHit := by
  simp [State.writeWord]
@[simp] theorem State.writeWord_imli (s : State) (x v : Word) : (s.writeWord x v).imli = s.imli := by
  simp [State.writeWord]
@[simp] theorem State.writeWord_imhi (s : State) (x v : Word) : (s.writeWord x v).imhi = s.imhi := by
  simp [State.writeWord]
@[simp] theorem State.writeWord_emli (s : State) (x v : Word) : (s.writeWord x v).emli = s.emli := by
  simp [State.writeWord]
@[simp] theorem State.writeWord_emhi (s : State) (x v : Word) : (s.writeWord x v).emhi = s.emhi := by
  simp [State.writeWord]
@[simp] theorem State.writeWord_ar (s : State) (x v : Word) : (s.writeWord x v).ar = s.ar := by
  simp [State.writeWord]
@[simp] theorem State.writeWord_ir (s : State) (x v : Word) : (s.writeWord x v).ir = s.ir := by
  simp [State.writeWord]
@[simp] theorem State.writeWord_run (s : State) (x v : Word) : (s.writeWord x v).run = s.run := by
  simp [State.writeWord]
@[simp] theorem State.writeWord_ioAnswers (s : State) (x v : Word) : (s.writeWord x v).ioAnswers = s.ioAnswers := by
  simp [State.writeWord]
@[simp] theorem State.writeWord_ioTrace (s : State) (x v : Word) : (s.writeWord x v).ioTrace = s.ioTrace := by
  simp [State.writeWord]
@[simp] theorem State.writeWord_inputs (s : State) (x v : Word) : (s.writeWord x v).inputs = s.inputs := by
  simp [State.writeWord]
@[simp] theorem State.writeWord_drDraws (s : State) (x v : Word) : (s.writeWord x v).drDraws = s.drDraws := by
  simp [State.writeWord]
@[simp] theorem State.writeWord_cfg (s : State) (x v : Word) : (s.writeWord x v).cfg = s.cfg := by
  simp [State.writeWord]

/-! ## `restart` -/

@[simp] theorem State.restart_a (s : State) : s.restart.a = s.a := rfl
@[simp] theorem State.restart_b (s : State) : s.restart.b = s.b := rfl
@[simp] theorem State.restart_i (s : State) : s.restart.i = s.i := rfl
@[simp] theorem State.restart_j (s : State) : s.restart.j = s.j := rfl
@[simp] theorem State.restart_sp (s : State) : s.restart.sp = s.sp := rfl
@[simp] theorem State.restart_pc (s : State) : s.restart.pc = 0xFE00 := rfl
@[simp] theorem State.restart_sr (s : State) : s.restart.sr = Status.reset := rfl
@[simp] theorem State.restart_dr (s : State) : s.restart.dr = s.dr := rfl
@[simp] theorem State.restart_drHit (s : State) : s.restart.drHit = s.drHit := rfl
@[simp] theorem State.restart_imli (s : State) : s.restart.imli = s.imli := rfl
@[simp] theorem State.restart_imhi (s : State) : s.restart.imhi = s.imhi := rfl
@[simp] theorem State.restart_emli (s : State) : s.restart.emli = s.emli := rfl
@[simp] theorem State.restart_emhi (s : State) : s.restart.emhi = s.emhi := rfl
@[simp] theorem State.restart_ar (s : State) : s.restart.ar = s.ar := rfl
@[simp] theorem State.restart_ir (s : State) : s.restart.ir = s.ir := rfl
@[simp] theorem State.restart_run (s : State) : s.restart.run = .running := rfl
@[simp] theorem State.restart_mem (s : State) : s.restart.mem = s.mem := rfl
@[simp] theorem State.restart_ioAnswers (s : State) : s.restart.ioAnswers = s.ioAnswers := rfl
@[simp] theorem State.restart_ioTrace (s : State) : s.restart.ioTrace = s.ioTrace := rfl
@[simp] theorem State.restart_inputs (s : State) : s.restart.inputs = s.inputs := rfl
@[simp] theorem State.restart_drDraws (s : State) : s.restart.drDraws = s.drDraws := rfl
@[simp] theorem State.restart_cfg (s : State) : s.restart.cfg = s.cfg := rfl

/-! ## `recordRead` -/

@[simp] theorem State.recordRead_a (s : State) (x : Word) : (s.recordRead x).a = s.a := rfl
@[simp] theorem State.recordRead_b (s : State) (x : Word) : (s.recordRead x).b = s.b := rfl
@[simp] theorem State.recordRead_i (s : State) (x : Word) : (s.recordRead x).i = s.i := rfl
@[simp] theorem State.recordRead_j (s : State) (x : Word) : (s.recordRead x).j = s.j := rfl
@[simp] theorem State.recordRead_sp (s : State) (x : Word) : (s.recordRead x).sp = s.sp := rfl
@[simp] theorem State.recordRead_pc (s : State) (x : Word) : (s.recordRead x).pc = s.pc := rfl
@[simp] theorem State.recordRead_sr (s : State) (x : Word) : (s.recordRead x).sr = s.sr := rfl
@[simp] theorem State.recordRead_dr (s : State) (x : Word) : (s.recordRead x).dr = s.dr := rfl
@[simp] theorem State.recordRead_drHit (s : State) (x : Word) : (s.recordRead x).drHit = s.drHit := rfl
@[simp] theorem State.recordRead_imli (s : State) (x : Word) : (s.recordRead x).imli = s.imli := rfl
@[simp] theorem State.recordRead_imhi (s : State) (x : Word) : (s.recordRead x).imhi = s.imhi := rfl
@[simp] theorem State.recordRead_emli (s : State) (x : Word) : (s.recordRead x).emli = s.emli := rfl
@[simp] theorem State.recordRead_emhi (s : State) (x : Word) : (s.recordRead x).emhi = s.emhi := rfl
@[simp] theorem State.recordRead_ar (s : State) (x : Word) : (s.recordRead x).ar = s.ar := rfl
@[simp] theorem State.recordRead_ir (s : State) (x : Word) : (s.recordRead x).ir = s.ir := rfl
@[simp] theorem State.recordRead_run (s : State) (x : Word) : (s.recordRead x).run = s.run := rfl
@[simp] theorem State.recordRead_mem (s : State) (x : Word) : (s.recordRead x).mem = s.mem := rfl
@[simp] theorem State.recordRead_ioAnswers (s : State) (x : Word) : (s.recordRead x).ioAnswers = s.ioAnswers.tail := rfl
@[simp] theorem State.recordRead_ioTrace (s : State) (x : Word) : (s.recordRead x).ioTrace = s.ioTrace ++ [.read x (s.ioAnswer x)] := rfl
@[simp] theorem State.recordRead_inputs (s : State) (x : Word) : (s.recordRead x).inputs = s.inputs := rfl
@[simp] theorem State.recordRead_drDraws (s : State) (x : Word) : (s.recordRead x).drDraws = s.drDraws := rfl
@[simp] theorem State.recordRead_cfg (s : State) (x : Word) : (s.recordRead x).cfg = s.cfg := rfl

/-! ## `recordWrite` -/

@[simp] theorem State.recordWrite_a (s : State) (x : Word) (v : Byte) : (s.recordWrite x v).a = s.a := rfl
@[simp] theorem State.recordWrite_b (s : State) (x : Word) (v : Byte) : (s.recordWrite x v).b = s.b := rfl
@[simp] theorem State.recordWrite_i (s : State) (x : Word) (v : Byte) : (s.recordWrite x v).i = s.i := rfl
@[simp] theorem State.recordWrite_j (s : State) (x : Word) (v : Byte) : (s.recordWrite x v).j = s.j := rfl
@[simp] theorem State.recordWrite_sp (s : State) (x : Word) (v : Byte) : (s.recordWrite x v).sp = s.sp := rfl
@[simp] theorem State.recordWrite_pc (s : State) (x : Word) (v : Byte) : (s.recordWrite x v).pc = s.pc := rfl
@[simp] theorem State.recordWrite_sr (s : State) (x : Word) (v : Byte) : (s.recordWrite x v).sr = s.sr := rfl
@[simp] theorem State.recordWrite_dr (s : State) (x : Word) (v : Byte) : (s.recordWrite x v).dr = s.dr := rfl
@[simp] theorem State.recordWrite_drHit (s : State) (x : Word) (v : Byte) : (s.recordWrite x v).drHit = s.drHit := rfl
@[simp] theorem State.recordWrite_imli (s : State) (x : Word) (v : Byte) : (s.recordWrite x v).imli = s.imli := rfl
@[simp] theorem State.recordWrite_imhi (s : State) (x : Word) (v : Byte) : (s.recordWrite x v).imhi = s.imhi := rfl
@[simp] theorem State.recordWrite_emli (s : State) (x : Word) (v : Byte) : (s.recordWrite x v).emli = s.emli := rfl
@[simp] theorem State.recordWrite_emhi (s : State) (x : Word) (v : Byte) : (s.recordWrite x v).emhi = s.emhi := rfl
@[simp] theorem State.recordWrite_ar (s : State) (x : Word) (v : Byte) : (s.recordWrite x v).ar = s.ar := rfl
@[simp] theorem State.recordWrite_ir (s : State) (x : Word) (v : Byte) : (s.recordWrite x v).ir = s.ir := rfl
@[simp] theorem State.recordWrite_run (s : State) (x : Word) (v : Byte) : (s.recordWrite x v).run = s.run := rfl
@[simp] theorem State.recordWrite_mem (s : State) (x : Word) (v : Byte) : (s.recordWrite x v).mem = s.mem := rfl
@[simp] theorem State.recordWrite_ioAnswers (s : State) (x : Word) (v : Byte) : (s.recordWrite x v).ioAnswers = s.ioAnswers := rfl
@[simp] theorem State.recordWrite_ioTrace (s : State) (x : Word) (v : Byte) : (s.recordWrite x v).ioTrace = s.ioTrace ++ [.write x v] := rfl
@[simp] theorem State.recordWrite_inputs (s : State) (x : Word) (v : Byte) : (s.recordWrite x v).inputs = s.inputs := rfl
@[simp] theorem State.recordWrite_drDraws (s : State) (x : Word) (v : Byte) : (s.recordWrite x v).drDraws = s.drDraws := rfl
@[simp] theorem State.recordWrite_cfg (s : State) (x : Word) (v : Byte) : (s.recordWrite x v).cfg = s.cfg := rfl

/-! ## `consumeInput` -/

@[simp] theorem State.consumeInput_a (s : State) : s.consumeInput.a = s.a := rfl
@[simp] theorem State.consumeInput_b (s : State) : s.consumeInput.b = s.b := rfl
@[simp] theorem State.consumeInput_i (s : State) : s.consumeInput.i = s.i := rfl
@[simp] theorem State.consumeInput_j (s : State) : s.consumeInput.j = s.j := rfl
@[simp] theorem State.consumeInput_sp (s : State) : s.consumeInput.sp = s.sp := rfl
@[simp] theorem State.consumeInput_pc (s : State) : s.consumeInput.pc = s.pc := rfl
@[simp] theorem State.consumeInput_sr (s : State) : s.consumeInput.sr = s.sr := rfl
@[simp] theorem State.consumeInput_dr (s : State) : s.consumeInput.dr = s.dr := rfl
@[simp] theorem State.consumeInput_drHit (s : State) : s.consumeInput.drHit = s.drHit := rfl
@[simp] theorem State.consumeInput_imli (s : State) : s.consumeInput.imli = s.imli := rfl
@[simp] theorem State.consumeInput_imhi (s : State) : s.consumeInput.imhi = s.imhi := rfl
@[simp] theorem State.consumeInput_emli (s : State) : s.consumeInput.emli = s.emli := rfl
@[simp] theorem State.consumeInput_emhi (s : State) : s.consumeInput.emhi = s.emhi := rfl
@[simp] theorem State.consumeInput_ar (s : State) : s.consumeInput.ar = s.ar := rfl
@[simp] theorem State.consumeInput_ir (s : State) : s.consumeInput.ir = s.ir := rfl
@[simp] theorem State.consumeInput_run (s : State) : s.consumeInput.run = s.run := rfl
@[simp] theorem State.consumeInput_mem (s : State) : s.consumeInput.mem = s.mem := rfl
@[simp] theorem State.consumeInput_ioAnswers (s : State) : s.consumeInput.ioAnswers = s.ioAnswers := rfl
@[simp] theorem State.consumeInput_ioTrace (s : State) : s.consumeInput.ioTrace = s.ioTrace := rfl
@[simp] theorem State.consumeInput_inputs (s : State) : s.consumeInput.inputs = s.inputs.tail := rfl
@[simp] theorem State.consumeInput_drDraws (s : State) : s.consumeInput.drDraws = s.drDraws := rfl
@[simp] theorem State.consumeInput_cfg (s : State) : s.consumeInput.cfg = s.cfg := rfl

/-! ## `passBoundary` -/

@[simp] theorem State.passBoundary_a (s : State) : s.passBoundary.a = s.a := rfl
@[simp] theorem State.passBoundary_b (s : State) : s.passBoundary.b = s.b := rfl
@[simp] theorem State.passBoundary_i (s : State) : s.passBoundary.i = s.i := rfl
@[simp] theorem State.passBoundary_j (s : State) : s.passBoundary.j = s.j := rfl
@[simp] theorem State.passBoundary_sp (s : State) : s.passBoundary.sp = s.sp := rfl
@[simp] theorem State.passBoundary_pc (s : State) : s.passBoundary.pc = s.pc := rfl
@[simp] theorem State.passBoundary_sr (s : State) : s.passBoundary.sr = s.sr := rfl
@[simp] theorem State.passBoundary_dr (s : State) : s.passBoundary.dr = s.dr := rfl
@[simp] theorem State.passBoundary_drHit (s : State) : s.passBoundary.drHit = false := rfl
@[simp] theorem State.passBoundary_imli (s : State) : s.passBoundary.imli = s.imli := rfl
@[simp] theorem State.passBoundary_imhi (s : State) : s.passBoundary.imhi = s.imhi := rfl
@[simp] theorem State.passBoundary_emli (s : State) : s.passBoundary.emli = s.emli := rfl
@[simp] theorem State.passBoundary_emhi (s : State) : s.passBoundary.emhi = s.emhi := rfl
@[simp] theorem State.passBoundary_ar (s : State) : s.passBoundary.ar = s.ar := rfl
@[simp] theorem State.passBoundary_ir (s : State) : s.passBoundary.ir = s.ir := rfl
@[simp] theorem State.passBoundary_run (s : State) : s.passBoundary.run = s.run := rfl
@[simp] theorem State.passBoundary_mem (s : State) : s.passBoundary.mem = s.mem := rfl
@[simp] theorem State.passBoundary_ioAnswers (s : State) : s.passBoundary.ioAnswers = s.ioAnswers := rfl
@[simp] theorem State.passBoundary_ioTrace (s : State) : s.passBoundary.ioTrace = s.ioTrace := rfl
@[simp] theorem State.passBoundary_inputs (s : State) : s.passBoundary.inputs = s.inputs.tail := rfl
@[simp] theorem State.passBoundary_drDraws (s : State) : s.passBoundary.drDraws = s.drDraws := rfl
@[simp] theorem State.passBoundary_cfg (s : State) : s.passBoundary.cfg = s.cfg := rfl

/-! ## `decrementDr` -/

@[simp] theorem State.decrementDr_a (s : State) : s.decrementDr.a = s.a := rfl
@[simp] theorem State.decrementDr_b (s : State) : s.decrementDr.b = s.b := rfl
@[simp] theorem State.decrementDr_i (s : State) : s.decrementDr.i = s.i := rfl
@[simp] theorem State.decrementDr_j (s : State) : s.decrementDr.j = s.j := rfl
@[simp] theorem State.decrementDr_sp (s : State) : s.decrementDr.sp = s.sp := rfl
@[simp] theorem State.decrementDr_pc (s : State) : s.decrementDr.pc = s.pc := rfl
@[simp] theorem State.decrementDr_sr (s : State) : s.decrementDr.sr = s.sr := rfl
@[simp] theorem State.decrementDr_dr (s : State) : s.decrementDr.dr = s.dr - 1 := rfl
@[simp] theorem State.decrementDr_drHit (s : State) : s.decrementDr.drHit = s.drHit := rfl
@[simp] theorem State.decrementDr_imli (s : State) : s.decrementDr.imli = s.imli := rfl
@[simp] theorem State.decrementDr_imhi (s : State) : s.decrementDr.imhi = s.imhi := rfl
@[simp] theorem State.decrementDr_emli (s : State) : s.decrementDr.emli = s.emli := rfl
@[simp] theorem State.decrementDr_emhi (s : State) : s.decrementDr.emhi = s.emhi := rfl
@[simp] theorem State.decrementDr_ar (s : State) : s.decrementDr.ar = s.ar := rfl
@[simp] theorem State.decrementDr_ir (s : State) : s.decrementDr.ir = s.ir := rfl
@[simp] theorem State.decrementDr_run (s : State) : s.decrementDr.run = s.run := rfl
@[simp] theorem State.decrementDr_mem (s : State) : s.decrementDr.mem = s.mem := rfl
@[simp] theorem State.decrementDr_ioAnswers (s : State) : s.decrementDr.ioAnswers = s.ioAnswers := rfl
@[simp] theorem State.decrementDr_ioTrace (s : State) : s.decrementDr.ioTrace = s.ioTrace := rfl
@[simp] theorem State.decrementDr_inputs (s : State) : s.decrementDr.inputs = s.inputs := rfl
@[simp] theorem State.decrementDr_drDraws (s : State) : s.decrementDr.drDraws = s.drDraws := rfl
@[simp] theorem State.decrementDr_cfg (s : State) : s.decrementDr.cfg = s.cfg := rfl

/-! ## `noteHit` -/

@[simp] theorem State.noteHit_a (s : State) : s.noteHit.a = s.a := rfl
@[simp] theorem State.noteHit_b (s : State) : s.noteHit.b = s.b := rfl
@[simp] theorem State.noteHit_i (s : State) : s.noteHit.i = s.i := rfl
@[simp] theorem State.noteHit_j (s : State) : s.noteHit.j = s.j := rfl
@[simp] theorem State.noteHit_sp (s : State) : s.noteHit.sp = s.sp := rfl
@[simp] theorem State.noteHit_pc (s : State) : s.noteHit.pc = s.pc := rfl
@[simp] theorem State.noteHit_sr (s : State) : s.noteHit.sr = s.sr := rfl
@[simp] theorem State.noteHit_dr (s : State) : s.noteHit.dr = s.dr := rfl
@[simp] theorem State.noteHit_drHit (s : State) : s.noteHit.drHit = (s.drHit || (s.dr == 0 && s.sr.d)) := rfl
@[simp] theorem State.noteHit_imli (s : State) : s.noteHit.imli = s.imli := rfl
@[simp] theorem State.noteHit_imhi (s : State) : s.noteHit.imhi = s.imhi := rfl
@[simp] theorem State.noteHit_emli (s : State) : s.noteHit.emli = s.emli := rfl
@[simp] theorem State.noteHit_emhi (s : State) : s.noteHit.emhi = s.emhi := rfl
@[simp] theorem State.noteHit_ar (s : State) : s.noteHit.ar = s.ar := rfl
@[simp] theorem State.noteHit_ir (s : State) : s.noteHit.ir = s.ir := rfl
@[simp] theorem State.noteHit_run (s : State) : s.noteHit.run = s.run := rfl
@[simp] theorem State.noteHit_mem (s : State) : s.noteHit.mem = s.mem := rfl
@[simp] theorem State.noteHit_ioAnswers (s : State) : s.noteHit.ioAnswers = s.ioAnswers := rfl
@[simp] theorem State.noteHit_ioTrace (s : State) : s.noteHit.ioTrace = s.ioTrace := rfl
@[simp] theorem State.noteHit_inputs (s : State) : s.noteHit.inputs = s.inputs := rfl
@[simp] theorem State.noteHit_drDraws (s : State) : s.noteHit.drDraws = s.drDraws := rfl
@[simp] theorem State.noteHit_cfg (s : State) : s.noteHit.cfg = s.cfg := rfl

/-! ## `loadIr` -/

@[simp] theorem State.loadIr_a (s : State) : s.loadIr.a = s.a := rfl
@[simp] theorem State.loadIr_b (s : State) : s.loadIr.b = s.b := rfl
@[simp] theorem State.loadIr_i (s : State) : s.loadIr.i = s.i := rfl
@[simp] theorem State.loadIr_j (s : State) : s.loadIr.j = s.j := rfl
@[simp] theorem State.loadIr_sp (s : State) : s.loadIr.sp = s.sp := rfl
@[simp] theorem State.loadIr_pc (s : State) : s.loadIr.pc = s.pc := rfl
@[simp] theorem State.loadIr_sr (s : State) : s.loadIr.sr = s.sr := rfl
@[simp] theorem State.loadIr_dr (s : State) : s.loadIr.dr = s.dr := rfl
@[simp] theorem State.loadIr_drHit (s : State) : s.loadIr.drHit = s.drHit := rfl
@[simp] theorem State.loadIr_imli (s : State) : s.loadIr.imli = s.imli := rfl
@[simp] theorem State.loadIr_imhi (s : State) : s.loadIr.imhi = s.imhi := rfl
@[simp] theorem State.loadIr_emli (s : State) : s.loadIr.emli = s.emli := rfl
@[simp] theorem State.loadIr_emhi (s : State) : s.loadIr.emhi = s.emhi := rfl
@[simp] theorem State.loadIr_ar (s : State) : s.loadIr.ar = s.ar := rfl
@[simp] theorem State.loadIr_ir (s : State) : s.loadIr.ir = s.readWord s.pc := rfl
@[simp] theorem State.loadIr_run (s : State) : s.loadIr.run = s.run := rfl
@[simp] theorem State.loadIr_mem (s : State) : s.loadIr.mem = s.mem := rfl
@[simp] theorem State.loadIr_ioAnswers (s : State) : s.loadIr.ioAnswers = s.ioAnswers := rfl
@[simp] theorem State.loadIr_ioTrace (s : State) : s.loadIr.ioTrace = s.ioTrace := rfl
@[simp] theorem State.loadIr_inputs (s : State) : s.loadIr.inputs = s.inputs := rfl
@[simp] theorem State.loadIr_drDraws (s : State) : s.loadIr.drDraws = s.drDraws := rfl
@[simp] theorem State.loadIr_cfg (s : State) : s.loadIr.cfg = s.cfg := rfl

/-! ## `countDown` and `tick` -/

@[simp] theorem State.countDown_a (s : State) (n : Nat) : (s.countDown n).a = s.a := by
  induction n generalizing s with
  | zero => rfl
  | succ n ih => exact ih _
@[simp] theorem State.countDown_b (s : State) (n : Nat) : (s.countDown n).b = s.b := by
  induction n generalizing s with
  | zero => rfl
  | succ n ih => exact ih _
@[simp] theorem State.countDown_i (s : State) (n : Nat) : (s.countDown n).i = s.i := by
  induction n generalizing s with
  | zero => rfl
  | succ n ih => exact ih _
@[simp] theorem State.countDown_j (s : State) (n : Nat) : (s.countDown n).j = s.j := by
  induction n generalizing s with
  | zero => rfl
  | succ n ih => exact ih _
@[simp] theorem State.countDown_sp (s : State) (n : Nat) : (s.countDown n).sp = s.sp := by
  induction n generalizing s with
  | zero => rfl
  | succ n ih => exact ih _
@[simp] theorem State.countDown_pc (s : State) (n : Nat) : (s.countDown n).pc = s.pc := by
  induction n generalizing s with
  | zero => rfl
  | succ n ih => exact ih _
@[simp] theorem State.countDown_sr (s : State) (n : Nat) : (s.countDown n).sr = s.sr := by
  induction n generalizing s with
  | zero => rfl
  | succ n ih => exact ih _
@[simp] theorem State.countDown_imli (s : State) (n : Nat) : (s.countDown n).imli = s.imli := by
  induction n generalizing s with
  | zero => rfl
  | succ n ih => exact ih _
@[simp] theorem State.countDown_imhi (s : State) (n : Nat) : (s.countDown n).imhi = s.imhi := by
  induction n generalizing s with
  | zero => rfl
  | succ n ih => exact ih _
@[simp] theorem State.countDown_emli (s : State) (n : Nat) : (s.countDown n).emli = s.emli := by
  induction n generalizing s with
  | zero => rfl
  | succ n ih => exact ih _
@[simp] theorem State.countDown_emhi (s : State) (n : Nat) : (s.countDown n).emhi = s.emhi := by
  induction n generalizing s with
  | zero => rfl
  | succ n ih => exact ih _
@[simp] theorem State.countDown_ar (s : State) (n : Nat) : (s.countDown n).ar = s.ar := by
  induction n generalizing s with
  | zero => rfl
  | succ n ih => exact ih _
@[simp] theorem State.countDown_ir (s : State) (n : Nat) : (s.countDown n).ir = s.ir := by
  induction n generalizing s with
  | zero => rfl
  | succ n ih => exact ih _
@[simp] theorem State.countDown_run (s : State) (n : Nat) : (s.countDown n).run = s.run := by
  induction n generalizing s with
  | zero => rfl
  | succ n ih => exact ih _
@[simp] theorem State.countDown_mem (s : State) (n : Nat) : (s.countDown n).mem = s.mem := by
  induction n generalizing s with
  | zero => rfl
  | succ n ih => exact ih _
@[simp] theorem State.countDown_ioAnswers (s : State) (n : Nat) : (s.countDown n).ioAnswers = s.ioAnswers := by
  induction n generalizing s with
  | zero => rfl
  | succ n ih => exact ih _
@[simp] theorem State.countDown_ioTrace (s : State) (n : Nat) : (s.countDown n).ioTrace = s.ioTrace := by
  induction n generalizing s with
  | zero => rfl
  | succ n ih => exact ih _
@[simp] theorem State.countDown_inputs (s : State) (n : Nat) : (s.countDown n).inputs = s.inputs := by
  induction n generalizing s with
  | zero => rfl
  | succ n ih => exact ih _
@[simp] theorem State.countDown_drDraws (s : State) (n : Nat) : (s.countDown n).drDraws = s.drDraws := by
  induction n generalizing s with
  | zero => rfl
  | succ n ih => exact ih _
@[simp] theorem State.countDown_cfg (s : State) (n : Nat) : (s.countDown n).cfg = s.cfg := by
  induction n generalizing s with
  | zero => rfl
  | succ n ih => exact ih _
@[simp] theorem State.tick_a (s : State) : s.tick.a = s.a := by
  unfold State.tick; split <;> simp
@[simp] theorem State.tick_b (s : State) : s.tick.b = s.b := by
  unfold State.tick; split <;> simp
@[simp] theorem State.tick_i (s : State) : s.tick.i = s.i := by
  unfold State.tick; split <;> simp
@[simp] theorem State.tick_j (s : State) : s.tick.j = s.j := by
  unfold State.tick; split <;> simp
@[simp] theorem State.tick_sp (s : State) : s.tick.sp = s.sp := by
  unfold State.tick; split <;> simp
@[simp] theorem State.tick_pc (s : State) : s.tick.pc = s.pc := by
  unfold State.tick; split <;> simp
@[simp] theorem State.tick_sr (s : State) : s.tick.sr = s.sr := by
  unfold State.tick; split <;> simp
@[simp] theorem State.tick_imli (s : State) : s.tick.imli = s.imli := by
  unfold State.tick; split <;> simp
@[simp] theorem State.tick_imhi (s : State) : s.tick.imhi = s.imhi := by
  unfold State.tick; split <;> simp
@[simp] theorem State.tick_emli (s : State) : s.tick.emli = s.emli := by
  unfold State.tick; split <;> simp
@[simp] theorem State.tick_emhi (s : State) : s.tick.emhi = s.emhi := by
  unfold State.tick; split <;> simp
@[simp] theorem State.tick_ar (s : State) : s.tick.ar = s.ar := by
  unfold State.tick; split <;> simp
@[simp] theorem State.tick_ir (s : State) : s.tick.ir = s.ir := by
  unfold State.tick; split <;> simp
@[simp] theorem State.tick_run (s : State) : s.tick.run = s.run := by
  unfold State.tick; split <;> simp
@[simp] theorem State.tick_mem (s : State) : s.tick.mem = s.mem := by
  unfold State.tick; split <;> simp
@[simp] theorem State.tick_ioAnswers (s : State) : s.tick.ioAnswers = s.ioAnswers := by
  unfold State.tick; split <;> simp
@[simp] theorem State.tick_ioTrace (s : State) : s.tick.ioTrace = s.ioTrace := by
  unfold State.tick; split <;> simp
@[simp] theorem State.tick_inputs (s : State) : s.tick.inputs = s.inputs := by
  unfold State.tick; split <;> simp
@[simp] theorem State.tick_cfg (s : State) : s.tick.cfg = s.cfg := by
  unfold State.tick; split <;> simp

/-! ## Reads that an update leaves alone -/

/-- A read of a cell depends on memory only. -/
theorem State.readCell_congr {s t : State} (h : s.mem = t.mem) (x : Word) : s.readCell x = t.readCell x := by
  simp [State.readCell, h]

/-- A read of a word depends on memory only. -/
theorem State.readWord_congr {s t : State} (h : s.mem = t.mem) (x : Word) : s.readWord x = t.readWord x := by
  simp [State.readWord, State.readCell_congr h]

@[simp] theorem State.readCell_withSr (s : State) (f : Status) (x : Word) : (s.withSr f).readCell x = s.readCell x := rfl
@[simp] theorem State.readCell_withPc (s : State) (v x : Word) : (s.withPc v).readCell x = s.readCell x := rfl
@[simp] theorem State.readCell_withAr (s : State) (v x : Word) : (s.withAr v).readCell x = s.readCell x := rfl
@[simp] theorem State.readCell_withIr (s : State) (v x : Word) : (s.withIr v).readCell x = s.readCell x := rfl
@[simp] theorem State.readWord_withSr (s : State) (f : Status) (x : Word) : (s.withSr f).readWord x = s.readWord x := rfl
@[simp] theorem State.readWord_withPc (s : State) (v x : Word) : (s.withPc v).readWord x = s.readWord x := rfl
@[simp] theorem State.readWord_withAr (s : State) (v x : Word) : (s.withAr v).readWord x = s.readWord x := rfl
@[simp] theorem State.readWord_withIr (s : State) (v x : Word) : (s.withIr v).readWord x = s.readWord x := rfl

@[simp] theorem State.readCell_set16 (s : State) (r : Reg16) (v x : Word) : (s.set16 r v).readCell x = s.readCell x :=
  State.readCell_congr (State.set16_mem s r v) x
@[simp] theorem State.readCell_set8 (s : State) (r : Reg8) (v : Byte) (x : Word) :
    (s.set8 r v).readCell x = s.readCell x :=
  State.readCell_congr (State.set8_mem s r v) x

end Sys2Proof.Machine
end

