-- ==== Sys2Proof/Laws/Ops.lean ====
section
/-! SUPPORT. One lemma for each shared operation that says once everything it can do when it answers a next state. -/

namespace Sys2Proof.Machine

/-! ## Ending an instruction -/

/-- `finish` always completes. -/
theorem finish_eq (len : Nat) (s : State) : finish len s = .next (s.withPc (s.pc + BitVec.ofNat 16 len)) := rfl

/-- `raise` always completes. -/
theorem raise_eq (k : Interrupt) (s : State) : raise k s = .next (s.enter k (s.pc + s.cfg.syncSavedPcOffset)) := rfl

theorem finish_next {len : Nat} {s t : State} (h : finish len s = .next t) :
    t = s.withPc (s.pc + BitVec.ofNat 16 len) := by
  cases h; rfl

theorem raise_next {k : Interrupt} {s t : State} (h : raise k s = .next t) :
    t = s.enter k (s.pc + s.cfg.syncSavedPcOffset) := by
  cases h; rfl

/-! ## The guards -/

/-- `requireS` lets the rest run in system mode and takes NMI with cause 2 in user mode. -/
theorem requireS_next {s t : State} {rest : Out} (h : requireS s rest = .next t) :
    (s.sr.s = true ∧ rest = .next t) ∨
      (s.sr.s = false ∧ t = s.enter (.nmi 2) (s.pc + s.cfg.syncSavedPcOffset)) := by
  unfold requireS at h
  split at h
  · exact .inl ⟨‹_›, h⟩
  · exact .inr ⟨by simpa using ‹¬ s.sr.s = true›, raise_next h⟩

/-- `romGuard` lets the rest run or stops. -/
theorem romGuard_next {a : Word} {n : Nat} {s t : State} {rest : Out} (h : romGuard a n s rest = .next t) :
    rest = .next t ∧ ¬ (s.cfg.romWrite = .fault ∧ touchesRom a n = true) := by
  unfold romGuard at h
  split at h
  · cases h
  · rename_i hg
    refine ⟨h, fun hc => hg ?_⟩
    simp [hc.1, hc.2]

/-- `checkInt` writes AR and lets the rest run, or takes IAOOR-INR. -/
theorem checkInt_next {a : Word} {s t : State} {rest : State → Out} (h : checkInt a s rest = .next t) :
    ((s.sr.s = true ∨ s.inInternal a = true) ∧ rest (s.withAr a) = .next t) ∨
      ((s.sr.s = false ∧ s.inInternal a = false) ∧
        t = (s.withAr a).enter .iaoor (s.pc + s.cfg.syncSavedPcOffset)) := by
  unfold checkInt at h
  split at h
  · rename_i hc; exact .inl ⟨by simpa using hc, h⟩
  · rename_i hc; exact .inr ⟨by simpa using hc, raise_next h⟩

/-- `checkExt` writes AR and lets the rest run, or takes EAOOR-INR. -/
theorem checkExt_next {a : Word} {s t : State} {rest : State → Out} (h : checkExt a s rest = .next t) :
    ((s.sr.s = true ∨ s.inExternal a = true) ∧ rest (s.withAr a) = .next t) ∨
      ((s.sr.s = false ∧ s.inExternal a = false) ∧
        t = (s.withAr a).enter .eaoor (s.pc + s.cfg.syncSavedPcOffset)) := by
  unfold checkExt at h
  split at h
  · rename_i hc; exact .inl ⟨by simpa using hc, h⟩
  · rename_i hc; exact .inr ⟨by simpa using hc, raise_next h⟩

/-- `checkSp` lets the rest run or takes SPOOR-INR. -/
theorem checkSp_next {p : Word} {s t : State} {rest : Out} (h : checkSp p s rest = .next t) :
    ((s.sr.s = true ∨ (s.inInternal s.sp = true ∧ s.inInternal p = true)) ∧ rest = .next t) ∨
      ((s.sr.s = false ∧ ¬ (s.inInternal s.sp = true ∧ s.inInternal p = true)) ∧
        t = s.enter .spoor (s.pc + s.cfg.syncSavedPcOffset)) := by
  unfold checkSp at h
  split at h
  · rename_i hc; exact .inl ⟨by simpa using hc, h⟩
  · rename_i hc
    refine .inr ⟨?_, raise_next h⟩
    simp only [Bool.or_eq_true, Bool.and_eq_true, not_or] at hc
    exact ⟨by simpa using hc.1, hc.2⟩

/-! ## Operands and stores -/

/-- `operand8` hands over the byte at the effective address, with AR written, or takes IAOOR-INR. -/
theorem operand8_next {m : MemMode} {s t : State} {rest : Byte → State → Out} (h : operand8 m s rest = .next t) :
    ((s.sr.s = true ∨ s.inInternal (s.ea m) = true) ∧
        rest (s.readCell (s.ea m)) (s.withAr (s.ea m)) = .next t) ∨
      ((s.sr.s = false ∧ s.inInternal (s.ea m) = false) ∧
        t = (s.withAr (s.ea m)).enter .iaoor (s.pc + s.cfg.syncSavedPcOffset)) :=
  checkInt_next h

/-- `operand16` hands over the word at the effective address, with AR written, or takes IAOOR-INR. -/
theorem operand16_next {m : MemMode} {s t : State} {rest : Word → State → Out} (h : operand16 m s rest = .next t) :
    ((s.sr.s = true ∨ s.inInternal (s.ea m) = true) ∧
        rest (s.readWord (s.ea m)) (s.withAr (s.ea m)) = .next t) ∨
      ((s.sr.s = false ∧ s.inInternal (s.ea m) = false) ∧
        t = (s.withAr (s.ea m)).enter .iaoor (s.pc + s.cfg.syncSavedPcOffset)) :=
  checkInt_next h

/-- `store8` writes AR, one cell and the PC, or takes IAOOR-INR. -/
theorem store8_next {m : MemMode} {v : Byte} {s t : State} (h : store8 m v s = .next t) :
    ((s.sr.s = true ∨ s.inInternal (s.ea m) = true) ∧
        t = ((s.withAr (s.ea m)).writeCell (s.ea m) v).withPc (s.pc + BitVec.ofNat 16 m.length)) ∨
      ((s.sr.s = false ∧ s.inInternal (s.ea m) = false) ∧
        t = (s.withAr (s.ea m)).enter .iaoor (s.pc + s.cfg.syncSavedPcOffset)) := by
  rcases checkInt_next h with ⟨hc, h⟩ | h
  · refine .inl ⟨hc, ?_⟩
    have := finish_next (romGuard_next h).1
    simpa using this
  · exact .inr h

/-- `store16` writes AR, two cells and the PC, or takes IAOOR-INR. -/
theorem store16_next {m : MemMode} {v : Word} {s t : State} (h : store16 m v s = .next t) :
    ((s.sr.s = true ∨ s.inInternal (s.ea m) = true) ∧
        t = ((s.withAr (s.ea m)).writeWord (s.ea m) v).withPc (s.pc + BitVec.ofNat 16 m.length)) ∨
      ((s.sr.s = false ∧ s.inInternal (s.ea m) = false) ∧
        t = (s.withAr (s.ea m)).enter .iaoor (s.pc + s.cfg.syncSavedPcOffset)) := by
  rcases checkInt_next h with ⟨hc, h⟩ | h
  · refine .inl ⟨hc, ?_⟩
    have := finish_next (romGuard_next h).1
    simpa using this
  · exact .inr h

/-! ## The stack -/

/-- `pushing` pushes and advances, or takes SPOOR-INR. -/
theorem pushing_next {n len : Nat} {s t : State} {push : State → State} (h : pushing n len s push = .next t) :
    ((s.sr.s = true ∨ (s.inInternal s.sp = true ∧ s.inInternal (s.sp + BitVec.ofNat 16 n) = true)) ∧
        t = (push s).withPc ((push s).pc + BitVec.ofNat 16 len)) ∨
      ((s.sr.s = false ∧ ¬ (s.inInternal s.sp = true ∧ s.inInternal (s.sp + BitVec.ofNat 16 n) = true)) ∧
        t = s.enter .spoor (s.pc + s.cfg.syncSavedPcOffset)) := by
  rcases checkSp_next h with ⟨hc, h⟩ | h
  · exact .inl ⟨hc, finish_next (romGuard_next h).1⟩
  · exact .inr h

/-- A byte pushed: one cell and SP. -/
theorem pushByte_eq (s : State) (v : Byte) : s.pushByte v = (s.writeCell s.sp v).set16 .sp (s.sp + 1) := rfl

/-- A word pushed: two cells and SP. -/
theorem pushWord_eq (s : State) (v : Word) : s.pushWord v = (s.writeWord s.sp v).set16 .sp (s.sp + 2) := rfl

/-- `RET`'s frame: SP down by three, SR from the lowest of the three bytes, PC from the two above it. -/
theorem returnFrame_eq (s : State) :
    s.returnFrame =
      { s with
        sp := s.sp - 3
        sr := s.sr.load (s.readCell (s.sp - 3))
        pc := s.readWord (s.sp - 2) } := by
  have e : s.sp - BitVec.ofNat 16 2 - 1 = s.sp - 3 := by
    generalize s.sp = p
    bv_omega
  unfold State.returnFrame State.dropStack State.topByte State.topWord
  simp only [State.set16, State.withSr, State.withPc]
  have hc : ∀ x, ({ s with sp := s.sp - BitVec.ofNat 16 2 } : State).readCell x = s.readCell x := fun _ => rfl
  rw [hc, e]
  rfl

/-! ## Taking an interrupt -/

/-- The context saved is a change of memory only. -/
theorem saveContext_eq (s : State) (p : Word) : s.saveContext p = { s with mem := (s.saveContext p).mem } := by
  unfold State.saveContext
  rw [State.writeWord_eq, State.writeWord_eq (State.writeCell _ _ _), State.writeCell_eq, State.writeWord_eq s]

/-- Saving the context keeps the canonical form. -/
theorem saveContext_wf {s : State} (p : Word) (h : s.mem.wf = true) : (s.saveContext p).mem.wf = true := by
  unfold State.saveContext
  exact State.writeWord_wf _ _ (State.writeWord_wf _ _ (State.writeCell_wf _ _ (State.writeWord_wf _ _ h)))

/-- The data of an interrupt change A and B only. -/
theorem interruptData_eq (s : State) (k : Interrupt) :
    s.interruptData k = { s with a := (s.interruptData k).a, b := (s.interruptData k).b } := by
  cases k <;> rfl

/-- What taking an interrupt writes: memory (the save area), SR, A and B (by the interrupt's data) and PC; nothing
else. -/
theorem enter_eq (s : State) (k : Interrupt) (p : Word) :
    s.enter k p =
      { s with
        mem := (s.saveContext p).mem
        sr := Status.entry
        a := (s.interruptData k).a
        b := (s.interruptData k).b
        pc := (s.saveContext p).readWord k.vector } := by
  obtain ⟨m, hm⟩ : ∃ m, s.saveContext p = { s with mem := m } := ⟨_, saveContext_eq s p⟩
  unfold State.enter
  rw [hm]
  cases k <;>
    simp only [State.interruptData, State.withSr, State.withPc, State.set16, State.set8, State.readWord,
      State.readCell]

/-- The memory after entry is that after the saves. -/
@[simp] theorem enter_mem (s : State) (k : Interrupt) (p : Word) : (s.enter k p).mem = (s.saveContext p).mem := by
  rw [enter_eq]

/-- Taking an interrupt keeps the canonical form. -/
theorem enter_wf {s : State} (k : Interrupt) (p : Word) (h : s.mem.wf = true) : (s.enter k p).mem.wf = true := by
  rw [enter_mem]
  exact saveContext_wf p h

/-! ## The DR tick -/

/-- Counting down writes DR and the remembered hit; nothing else. -/
theorem countDown_eq (s : State) (extra : Nat) :
    s.countDown extra =
      { s with dr := s.dr - BitVec.ofNat 16 (extra + 1), drHit := (s.countDown extra).drHit } := by
  induction extra generalizing s with
  | zero => rfl
  | succ n ih =>
    have e : s.dr - 1 - BitVec.ofNat 16 (n + 1) = s.dr - BitVec.ofNat 16 (n + 1 + 1) := by
      generalize s.dr = d
      apply BitVec.eq_of_toNat_eq
      have one : BitVec.toNat (1 : Word) = 1 := rfl
      simp only [BitVec.toNat_sub, BitVec.toNat_ofNat, one]
      omega
    simp only [State.countDown]
    rw [ih]
    simp only [State.noteHit, State.decrementDr, e]

/-- A hit remembered after counting down was remembered before or came with D = 1. -/
theorem countDown_hit {s : State} {extra : Nat} (h : (s.countDown extra).drHit = true) :
    s.drHit = true ∨ s.sr.d = true := by
  induction extra generalizing s with
  | zero => exact .inl h
  | succ n ih =>
    rcases ih h with h | h
    · simp only [State.noteHit, State.decrementDr, Bool.or_eq_true, Bool.and_eq_true] at h
      exact h.imp_right And.right
    · exact .inr h

/-- Everything a tick writes: of a running processor DR, the remembered hit and the draws; of a stopped one nothing. -/
theorem tick_eq (s : State) :
    (s.run = .running ∧
      s.tick =
        { s with
          dr := s.dr - BitVec.ofNat 16 (s.extraTicks + 1)
          drHit := (s.countDown s.extraTicks).drHit
          drDraws := s.drDraws.tail }) ∨
    (s.run = .stopped ∧ s.tick = s) := by
  unfold State.tick
  cases hr : s.run with
  | running =>
    refine .inl ⟨rfl, ?_⟩
    simp only
    rw [countDown_eq]
    simp [hr]
  | stopped => exact .inr ⟨rfl, rfl⟩

/-! ## A step -/

/-- Everything one step can do. -/
theorem boundaryStep_next {s t : State} (h : s.boundaryStep = .next t) :
    (s.boundaryInput.reset = true ∧ t = s.passBoundary.restart) ∨
    (s.boundaryInput.reset = false ∧ s.run = .stopped ∧ t = s.consumeInput) ∨
    (s.boundaryInput.reset = false ∧ s.run = .running ∧
      ∃ k, s.pending s.boundaryInput = some k ∧ t = s.passBoundary.enter k s.pc) ∨
    (s.boundaryInput.reset = false ∧ s.run = .running ∧ s.pending s.boundaryInput = none ∧
      ∃ u, s.passBoundary.runInstruction = .next u ∧ t = u.tick) := by
  unfold State.boundaryStep at h
  split at h
  · rename_i hr
    cases h
    exact .inl ⟨hr, rfl⟩
  · rename_i hr
    have hr : s.boundaryInput.reset = false := by simpa using hr
    cases hrun : s.run with
    | stopped =>
      rw [hrun] at h
      cases h
      exact .inr (.inl ⟨hr, rfl, rfl⟩)
    | running =>
      rw [hrun] at h
      cases hp : s.pending s.boundaryInput with
      | some k =>
        simp only [hp] at h
        cases h
        exact .inr (.inr (.inl ⟨hr, rfl, k, rfl, rfl⟩))
      | none =>
        simp only [hp] at h
        cases hi : s.passBoundary.runInstruction with
        | next u =>
          rw [hi] at h
          cases h
          exact .inr (.inr (.inr ⟨hr, rfl, rfl, u, rfl, rfl⟩))
        | fault r => rw [hi] at h; cases h
        | refused r => rw [hi] at h; cases h

end Sys2Proof.Machine
end

