-- ==== Sys2Proof/Laws/PerInstr.lean ====
section
/-! SUPPORT. The encoding of every instruction is well formed: a recognised opcode followed by as many argument bytes as
R71 and R72 give it. One lemma for each constructor. -/

namespace Sys2Proof

open Sys2Proof.Machine (joinBytes_hi_lo)

/-- The encoding of `i` is a recognised opcode with exactly its argument bytes. -/
def Laws.EncodingFits.Statement (i : Instr) : Prop := i.raw.wellFormed = true

/-- An instruction of format F0 fits. -/
theorem Laws.fitsF0 {i : Instr} (op : Word) (he : encode i = encodeF0 op)
    (h : (!opcodeUnrecognised op.toNat && 0 == opcodeArgBytes op.toNat) = true) : Laws.EncodingFits.Statement i := by
  unfold Laws.EncodingFits.Statement Instr.raw RawInstr.wellFormed
  simp only [he, encodeF0, joinBytes_hi_lo]
  exact h

/-- An instruction of format F1 fits. -/
theorem Laws.fitsF1 {i : Instr} {arg : Byte} (op : Word) (he : encode i = encodeF1 op arg)
    (h : (!opcodeUnrecognised op.toNat && 1 == opcodeArgBytes op.toNat) = true) : Laws.EncodingFits.Statement i := by
  unfold Laws.EncodingFits.Statement Instr.raw RawInstr.wellFormed
  simp only [he, encodeF1, joinBytes_hi_lo]
  exact h

/-- An instruction of format F2 fits. -/
theorem Laws.fitsF2 {i : Instr} {arg : Word} (op : Word) (he : encode i = encodeF2 op arg)
    (h : (!opcodeUnrecognised op.toNat && 2 == opcodeArgBytes op.toNat) = true) : Laws.EncodingFits.Statement i := by
  unfold Laws.EncodingFits.Statement Instr.raw RawInstr.wellFormed
  simp only [he, encodeF2, joinBytes_hi_lo]
  exact h

theorem Laws.EncodingFits.ada (form : AddForm) : Laws.EncodingFits.Statement (.ada form) :=
  match form with
  | .other => Laws.fitsF0 0x0014 rfl (by decide)
  | .imm8 _ => Laws.fitsF1 0x4004 rfl (by decide)
  | .mem (.zp _) => Laws.fitsF1 0x4005 rfl (by decide)
  | .mem (.zpX _) => Laws.fitsF1 0x4006 rfl (by decide)
  | .mem (.abs _) => Laws.fitsF2 0x8004 rfl (by decide)
  | .mem (.absX _) => Laws.fitsF2 0x8005 rfl (by decide)
  | .mem (.ind _) => Laws.fitsF2 0x8006 rfl (by decide)
  | .mem (.indX _) => Laws.fitsF2 0x8007 rfl (by decide)
  | .imm16 _ => Laws.fitsF2 0x8033 rfl (by decide)

theorem Laws.EncodingFits.adb (form : AddForm) : Laws.EncodingFits.Statement (.adb form) :=
  match form with
  | .other => Laws.fitsF0 0x0015 rfl (by decide)
  | .imm8 _ => Laws.fitsF1 0x4007 rfl (by decide)
  | .mem (.zp _) => Laws.fitsF1 0x4008 rfl (by decide)
  | .mem (.zpX _) => Laws.fitsF1 0x4009 rfl (by decide)
  | .mem (.abs _) => Laws.fitsF2 0x8008 rfl (by decide)
  | .mem (.absX _) => Laws.fitsF2 0x8009 rfl (by decide)
  | .mem (.ind _) => Laws.fitsF2 0x800A rfl (by decide)
  | .mem (.indX _) => Laws.fitsF2 0x800B rfl (by decide)
  | .imm16 _ => Laws.fitsF2 0x8034 rfl (by decide)

theorem Laws.EncodingFits.ana (form : AluForm) : Laws.EncodingFits.Statement (.ana form) :=
  match form with
  | .other => Laws.fitsF0 0x0016 rfl (by decide)
  | .index => Laws.fitsF0 0x0018 rfl (by decide)
  | .imm8 _ => Laws.fitsF1 0x400A rfl (by decide)
  | .mem (.zp _) => Laws.fitsF1 0x400B rfl (by decide)
  | .mem (.zpX _) => Laws.fitsF1 0x400C rfl (by decide)
  | .mem (.abs _) => Laws.fitsF2 0x800C rfl (by decide)
  | .mem (.absX _) => Laws.fitsF2 0x800D rfl (by decide)
  | .mem (.ind _) => Laws.fitsF2 0x800E rfl (by decide)
  | .mem (.indX _) => Laws.fitsF2 0x800F rfl (by decide)
  | .imm16 _ => Laws.fitsF2 0x8035 rfl (by decide)

theorem Laws.EncodingFits.anb (form : AluForm) : Laws.EncodingFits.Statement (.anb form) :=
  match form with
  | .other => Laws.fitsF0 0x0017 rfl (by decide)
  | .index => Laws.fitsF0 0x0019 rfl (by decide)
  | .imm8 _ => Laws.fitsF1 0x400D rfl (by decide)
  | .mem (.zp _) => Laws.fitsF1 0x400E rfl (by decide)
  | .mem (.zpX _) => Laws.fitsF1 0x400F rfl (by decide)
  | .mem (.abs _) => Laws.fitsF2 0x8010 rfl (by decide)
  | .mem (.absX _) => Laws.fitsF2 0x8011 rfl (by decide)
  | .mem (.ind _) => Laws.fitsF2 0x8012 rfl (by decide)
  | .mem (.indX _) => Laws.fitsF2 0x8013 rfl (by decide)
  | .imm16 _ => Laws.fitsF2 0x8036 rfl (by decide)

theorem Laws.EncodingFits.aret : Laws.EncodingFits.Statement .aret :=
  Laws.fitsF0 0x0002 rfl (by decide)

theorem Laws.EncodingFits.clc : Laws.EncodingFits.Statement .clc :=
  Laws.fitsF0 0x0010 rfl (by decide)

theorem Laws.EncodingFits.cld : Laws.EncodingFits.Statement .cld :=
  Laws.fitsF0 0x0012 rfl (by decide)

theorem Laws.EncodingFits.cli : Laws.EncodingFits.Statement .cli :=
  Laws.fitsF0 0x0013 rfl (by decide)

theorem Laws.EncodingFits.clo : Laws.EncodingFits.Statement .clo :=
  Laws.fitsF0 0x0011 rfl (by decide)

theorem Laws.EncodingFits.cls : Laws.EncodingFits.Statement .cls :=
  Laws.fitsF0 0x0061 rfl (by decide)

theorem Laws.EncodingFits.cmah (form : CmpHighForm) : Laws.EncodingFits.Statement (.cmah form) :=
  match form with
  | .other => Laws.fitsF0 0x001A rfl (by decide)
  | .imm8 _ => Laws.fitsF1 0x403F rfl (by decide)
  | .mem (.zp _) => Laws.fitsF1 0x4040 rfl (by decide)
  | .mem (.zpX _) => Laws.fitsF1 0x4041 rfl (by decide)
  | .mem (.abs _) => Laws.fitsF2 0x8014 rfl (by decide)
  | .mem (.absX _) => Laws.fitsF2 0x8015 rfl (by decide)
  | .mem (.ind _) => Laws.fitsF2 0x8016 rfl (by decide)
  | .mem (.indX _) => Laws.fitsF2 0x8017 rfl (by decide)

theorem Laws.EncodingFits.cmbh (form : CmpHighForm) : Laws.EncodingFits.Statement (.cmbh form) :=
  match form with
  | .other => Laws.fitsF0 0x001B rfl (by decide)
  | .imm8 _ => Laws.fitsF1 0x4042 rfl (by decide)
  | .mem (.zp _) => Laws.fitsF1 0x4043 rfl (by decide)
  | .mem (.zpX _) => Laws.fitsF1 0x4044 rfl (by decide)
  | .mem (.abs _) => Laws.fitsF2 0x8018 rfl (by decide)
  | .mem (.absX _) => Laws.fitsF2 0x8019 rfl (by decide)
  | .mem (.ind _) => Laws.fitsF2 0x801A rfl (by decide)
  | .mem (.indX _) => Laws.fitsF2 0x801B rfl (by decide)

theorem Laws.EncodingFits.cmpa (form : CmpForm) : Laws.EncodingFits.Statement (.cmpa form) :=
  match form with
  | .other => Laws.fitsF0 0x001C rfl (by decide)
  | .index => Laws.fitsF0 0x001E rfl (by decide)
  | .mem (.zp _) => Laws.fitsF1 0x4045 rfl (by decide)
  | .mem (.zpX _) => Laws.fitsF1 0x4046 rfl (by decide)
  | .mem (.abs _) => Laws.fitsF2 0x801C rfl (by decide)
  | .mem (.absX _) => Laws.fitsF2 0x801D rfl (by decide)
  | .mem (.ind _) => Laws.fitsF2 0x801E rfl (by decide)
  | .mem (.indX _) => Laws.fitsF2 0x801F rfl (by decide)
  | .imm16 _ => Laws.fitsF2 0x8024 rfl (by decide)

theorem Laws.EncodingFits.cmpb (form : CmpForm) : Laws.EncodingFits.Statement (.cmpb form) :=
  match form with
  | .other => Laws.fitsF0 0x001D rfl (by decide)
  | .index => Laws.fitsF0 0x001F rfl (by decide)
  | .mem (.zp _) => Laws.fitsF1 0x4047 rfl (by decide)
  | .mem (.zpX _) => Laws.fitsF1 0x4048 rfl (by decide)
  | .mem (.abs _) => Laws.fitsF2 0x8020 rfl (by decide)
  | .mem (.absX _) => Laws.fitsF2 0x8021 rfl (by decide)
  | .mem (.ind _) => Laws.fitsF2 0x8022 rfl (by decide)
  | .mem (.indX _) => Laws.fitsF2 0x8023 rfl (by decide)
  | .imm16 _ => Laws.fitsF2 0x8025 rfl (by decide)

theorem Laws.EncodingFits.cmpi (form : CmpIndexForm) : Laws.EncodingFits.Statement (.cmpi form) :=
  match form with
  | .accumulator => Laws.fitsF0 0x0020 rfl (by decide)
  | .mem (.zp _) => Laws.fitsF1 0x4049 rfl (by decide)
  | .imm16 _ => Laws.fitsF2 0x8026 rfl (by decide)
  | .mem (.abs _) => Laws.fitsF2 0x8027 rfl (by decide)
  | .mem (.ind _) => Laws.fitsF2 0x8028 rfl (by decide)

theorem Laws.EncodingFits.cpuid : Laws.EncodingFits.Statement .cpuid :=
  Laws.fitsF0 0x0003 rfl (by decide)

theorem Laws.EncodingFits.dea : Laws.EncodingFits.Statement .dea :=
  Laws.fitsF0 0x0008 rfl (by decide)

theorem Laws.EncodingFits.deb : Laws.EncodingFits.Statement .deb :=
  Laws.fitsF0 0x0009 rfl (by decide)

theorem Laws.EncodingFits.dei : Laws.EncodingFits.Statement .dei :=
  Laws.fitsF0 0x000A rfl (by decide)

theorem Laws.EncodingFits.dej : Laws.EncodingFits.Statement .dej :=
  Laws.fitsF0 0x000B rfl (by decide)

theorem Laws.EncodingFits.ina : Laws.EncodingFits.Statement .ina :=
  Laws.fitsF0 0x0004 rfl (by decide)

theorem Laws.EncodingFits.inb : Laws.EncodingFits.Statement .inb :=
  Laws.fitsF0 0x0005 rfl (by decide)

theorem Laws.EncodingFits.ini : Laws.EncodingFits.Statement .ini :=
  Laws.fitsF0 0x0006 rfl (by decide)

theorem Laws.EncodingFits.inj : Laws.EncodingFits.Statement .inj :=
  Laws.fitsF0 0x0007 rfl (by decide)

theorem Laws.EncodingFits.jcc (form : JumpForm) : Laws.EncodingFits.Statement (.jcc form) :=
  match form with
  | .relJ => Laws.fitsF0 0x0021 rfl (by decide)
  | .rel _ => Laws.fitsF1 0x4010 rfl (by decide)
  | .abs _ => Laws.fitsF2 0x8029 rfl (by decide)

theorem Laws.EncodingFits.jcs (form : JumpForm) : Laws.EncodingFits.Statement (.jcs form) :=
  match form with
  | .relJ => Laws.fitsF0 0x0025 rfl (by decide)
  | .rel _ => Laws.fitsF1 0x4014 rfl (by decide)
  | .abs _ => Laws.fitsF2 0x802D rfl (by decide)

theorem Laws.EncodingFits.jeq (form : JumpForm) : Laws.EncodingFits.Statement (.jeq form) :=
  match form with
  | .relJ => Laws.fitsF0 0x0027 rfl (by decide)
  | .rel _ => Laws.fitsF1 0x4016 rfl (by decide)
  | .abs _ => Laws.fitsF2 0x802F rfl (by decide)

theorem Laws.EncodingFits.jmp (form : JmpForm) : Laws.EncodingFits.Statement (.jmp form) :=
  match form with
  | .accumulator => Laws.fitsF0 0x0056 rfl (by decide)
  | .base => Laws.fitsF0 0x0057 rfl (by decide)
  | .index => Laws.fitsF0 0x0058 rfl (by decide)
  | .relJ => Laws.fitsF0 0x0063 rfl (by decide)
  | .rel _ => Laws.fitsF1 0x405C rfl (by decide)
  | .abs _ => Laws.fitsF2 0x8031 rfl (by decide)
  | .ind _ => Laws.fitsF2 0x8032 rfl (by decide)

theorem Laws.EncodingFits.jnc (form : JumpForm) : Laws.EncodingFits.Statement (.jnc form) :=
  match form with
  | .relJ => Laws.fitsF0 0x0024 rfl (by decide)
  | .rel _ => Laws.fitsF1 0x4013 rfl (by decide)
  | .abs _ => Laws.fitsF2 0x802C rfl (by decide)

theorem Laws.EncodingFits.jne (form : JumpForm) : Laws.EncodingFits.Statement (.jne form) :=
  match form with
  | .relJ => Laws.fitsF0 0x0023 rfl (by decide)
  | .rel _ => Laws.fitsF1 0x4012 rfl (by decide)
  | .abs _ => Laws.fitsF2 0x802B rfl (by decide)

theorem Laws.EncodingFits.jns (form : JumpForm) : Laws.EncodingFits.Statement (.jns form) :=
  match form with
  | .relJ => Laws.fitsF0 0x0028 rfl (by decide)
  | .rel _ => Laws.fitsF1 0x4017 rfl (by decide)
  | .abs _ => Laws.fitsF2 0x8030 rfl (by decide)

theorem Laws.EncodingFits.joc (form : JumpForm) : Laws.EncodingFits.Statement (.joc form) :=
  match form with
  | .relJ => Laws.fitsF0 0x0022 rfl (by decide)
  | .rel _ => Laws.fitsF1 0x4011 rfl (by decide)
  | .abs _ => Laws.fitsF2 0x802A rfl (by decide)

theorem Laws.EncodingFits.jos (form : JumpForm) : Laws.EncodingFits.Statement (.jos form) :=
  match form with
  | .relJ => Laws.fitsF0 0x0026 rfl (by decide)
  | .rel _ => Laws.fitsF1 0x4015 rfl (by decide)
  | .abs _ => Laws.fitsF2 0x802E rfl (by decide)

theorem Laws.EncodingFits.kill (form : KillForm) : Laws.EncodingFits.Statement (.kill form) :=
  match form with
  | .op0001 => Laws.fitsF0 0x0001 rfl (by decide)
  | .op3FFD => Laws.fitsF0 0x3FFD rfl (by decide)
  | .op8086 _ => Laws.fitsF2 0x8086 rfl (by decide)

theorem Laws.EncodingFits.lda (form : Src16 AbsMode) : Laws.EncodingFits.Statement (.lda form) :=
  match form with
  | .mem (.abs _) => Laws.fitsF2 0x8037 rfl (by decide)
  | .mem (.absX _) => Laws.fitsF2 0x8038 rfl (by decide)
  | .mem (.ind _) => Laws.fitsF2 0x8039 rfl (by decide)
  | .mem (.indX _) => Laws.fitsF2 0x803A rfl (by decide)
  | .imm _ => Laws.fitsF2 0x8053 rfl (by decide)

theorem Laws.EncodingFits.ldah (form : Src8 AbsMode) : Laws.EncodingFits.Statement (.ldah form) :=
  match form with
  | .imm _ => Laws.fitsF1 0x4018 rfl (by decide)
  | .mem (.abs _) => Laws.fitsF2 0x803B rfl (by decide)
  | .mem (.absX _) => Laws.fitsF2 0x803C rfl (by decide)
  | .mem (.ind _) => Laws.fitsF2 0x803D rfl (by decide)
  | .mem (.indX _) => Laws.fitsF2 0x803E rfl (by decide)

theorem Laws.EncodingFits.ldal (form : Src8 AbsMode) : Laws.EncodingFits.Statement (.ldal form) :=
  match form with
  | .imm _ => Laws.fitsF1 0x4019 rfl (by decide)
  | .mem (.abs _) => Laws.fitsF2 0x803F rfl (by decide)
  | .mem (.absX _) => Laws.fitsF2 0x8040 rfl (by decide)
  | .mem (.ind _) => Laws.fitsF2 0x8041 rfl (by decide)
  | .mem (.indX _) => Laws.fitsF2 0x8042 rfl (by decide)

theorem Laws.EncodingFits.ldb (form : Src16 AbsMode) : Laws.EncodingFits.Statement (.ldb form) :=
  match form with
  | .mem (.abs _) => Laws.fitsF2 0x8043 rfl (by decide)
  | .mem (.absX _) => Laws.fitsF2 0x8044 rfl (by decide)
  | .mem (.ind _) => Laws.fitsF2 0x8045 rfl (by decide)
  | .mem (.indX _) => Laws.fitsF2 0x8046 rfl (by decide)
  | .imm _ => Laws.fitsF2 0x8054 rfl (by decide)

theorem Laws.EncodingFits.ldbh (form : Src8 AbsMode) : Laws.EncodingFits.Statement (.ldbh form) :=
  match form with
  | .imm _ => Laws.fitsF1 0x401A rfl (by decide)
  | .mem (.abs _) => Laws.fitsF2 0x8047 rfl (by decide)
  | .mem (.absX _) => Laws.fitsF2 0x8048 rfl (by decide)
  | .mem (.ind _) => Laws.fitsF2 0x8049 rfl (by decide)
  | .mem (.indX _) => Laws.fitsF2 0x804A rfl (by decide)

theorem Laws.EncodingFits.ldbl (form : Src8 AbsMode) : Laws.EncodingFits.Statement (.ldbl form) :=
  match form with
  | .imm _ => Laws.fitsF1 0x401B rfl (by decide)
  | .mem (.abs _) => Laws.fitsF2 0x804B rfl (by decide)
  | .mem (.absX _) => Laws.fitsF2 0x804C rfl (by decide)
  | .mem (.ind _) => Laws.fitsF2 0x804D rfl (by decide)
  | .mem (.indX _) => Laws.fitsF2 0x804E rfl (by decide)

theorem Laws.EncodingFits.lddr (form : Src16 AbsIndMode) : Laws.EncodingFits.Statement (.lddr form) :=
  match form with
  | .mem (.abs _) => Laws.fitsF2 0x808A rfl (by decide)
  | .mem (.ind _) => Laws.fitsF2 0x808B rfl (by decide)
  | .imm _ => Laws.fitsF2 0x808C rfl (by decide)

theorem Laws.EncodingFits.ldi (form : Src16 AbsIndMode) : Laws.EncodingFits.Statement (.ldi form) :=
  match form with
  | .mem (.abs _) => Laws.fitsF2 0x804F rfl (by decide)
  | .mem (.ind _) => Laws.fitsF2 0x8050 rfl (by decide)
  | .imm _ => Laws.fitsF2 0x8055 rfl (by decide)

theorem Laws.EncodingFits.ldj (form : Src8 ZpAbsIndMode) : Laws.EncodingFits.Statement (.ldj form) :=
  match form with
  | .imm _ => Laws.fitsF1 0x401C rfl (by decide)
  | .mem (.zp _) => Laws.fitsF1 0x404A rfl (by decide)
  | .mem (.abs _) => Laws.fitsF2 0x8051 rfl (by decide)
  | .mem (.ind _) => Laws.fitsF2 0x8052 rfl (by decide)

theorem Laws.EncodingFits.ldsp (form : Src16 AbsIndMode) : Laws.EncodingFits.Statement (.ldsp form) :=
  match form with
  | .mem (.abs _) => Laws.fitsF2 0x8056 rfl (by decide)
  | .mem (.ind _) => Laws.fitsF2 0x8057 rfl (by decide)
  | .imm _ => Laws.fitsF2 0x8058 rfl (by decide)

theorem Laws.EncodingFits.ldsr (form : Src8 AbsIndMode) : Laws.EncodingFits.Statement (.ldsr form) :=
  match form with
  | .imm _ => Laws.fitsF1 0x4053 rfl (by decide)
  | .mem (.abs _) => Laws.fitsF2 0x80A9 rfl (by decide)
  | .mem (.ind _) => Laws.fitsF2 0x80B0 rfl (by decide)

theorem Laws.EncodingFits.lemh (form : Src16 BoundMode) : Laws.EncodingFits.Statement (.lemh form) :=
  match form with
  | .mem (.zp _) => Laws.fitsF1 0x4054 rfl (by decide)
  | .mem (.zpX _) => Laws.fitsF1 0x4055 rfl (by decide)
  | .mem (.abs _) => Laws.fitsF2 0x80B1 rfl (by decide)
  | .mem (.ind _) => Laws.fitsF2 0x80B2 rfl (by decide)
  | .imm _ => Laws.fitsF2 0x80B3 rfl (by decide)

theorem Laws.EncodingFits.leml (form : Src16 BoundMode) : Laws.EncodingFits.Statement (.leml form) :=
  match form with
  | .mem (.zp _) => Laws.fitsF1 0x4056 rfl (by decide)
  | .mem (.zpX _) => Laws.fitsF1 0x4057 rfl (by decide)
  | .mem (.abs _) => Laws.fitsF2 0x80B4 rfl (by decide)
  | .mem (.ind _) => Laws.fitsF2 0x80B5 rfl (by decide)
  | .imm _ => Laws.fitsF2 0x80B6 rfl (by decide)

theorem Laws.EncodingFits.limh (form : Src16 BoundMode) : Laws.EncodingFits.Statement (.limh form) :=
  match form with
  | .mem (.zp _) => Laws.fitsF1 0x404B rfl (by decide)
  | .mem (.zpX _) => Laws.fitsF1 0x404C rfl (by decide)
  | .mem (.abs _) => Laws.fitsF2 0x808D rfl (by decide)
  | .mem (.ind _) => Laws.fitsF2 0x808E rfl (by decide)
  | .imm _ => Laws.fitsF2 0x808F rfl (by decide)

theorem Laws.EncodingFits.liml (form : Src16 BoundMode) : Laws.EncodingFits.Statement (.liml form) :=
  match form with
  | .mem (.zp _) => Laws.fitsF1 0x404D rfl (by decide)
  | .mem (.zpX _) => Laws.fitsF1 0x404E rfl (by decide)
  | .mem (.abs _) => Laws.fitsF2 0x8090 rfl (by decide)
  | .mem (.ind _) => Laws.fitsF2 0x8091 rfl (by decide)
  | .imm _ => Laws.fitsF2 0x8092 rfl (by decide)

theorem Laws.EncodingFits.msb (form : MsbForm) : Laws.EncodingFits.Statement (.msb form) :=
  match form with
  | .accumulator => Laws.fitsF0 0x000C rfl (by decide)
  | .base => Laws.fitsF0 0x000D rfl (by decide)

theorem Laws.EncodingFits.nop (form : NopForm) : Laws.EncodingFits.Statement (.nop form) :=
  match form with
  | .op0000 => Laws.fitsF0 0x0000 rfl (by decide)
  | .op0029 => Laws.fitsF0 0x0029 rfl (by decide)
  | .op002A => Laws.fitsF0 0x002A rfl (by decide)
  | .op002B => Laws.fitsF0 0x002B rfl (by decide)
  | .op002C => Laws.fitsF0 0x002C rfl (by decide)
  | .op002F => Laws.fitsF0 0x002F rfl (by decide)
  | .op0030 => Laws.fitsF0 0x0030 rfl (by decide)
  | .op0033 => Laws.fitsF0 0x0033 rfl (by decide)
  | .op0034 => Laws.fitsF0 0x0034 rfl (by decide)
  | .op0035 => Laws.fitsF0 0x0035 rfl (by decide)
  | .op0069 => Laws.fitsF0 0x0069 rfl (by decide)
  | .op3FFC => Laws.fitsF0 0x3FFC rfl (by decide)
  | .op4000 _ => Laws.fitsF1 0x4000 rfl (by decide)
  | .op4023 _ => Laws.fitsF1 0x4023 rfl (by decide)
  | .op4038 _ => Laws.fitsF1 0x4038 rfl (by decide)
  | .op405D _ => Laws.fitsF1 0x405D rfl (by decide)
  | .op7FFF _ => Laws.fitsF1 0x7FFF rfl (by decide)
  | .op8000 _ => Laws.fitsF2 0x8000 rfl (by decide)
  | .op8076 _ => Laws.fitsF2 0x8076 rfl (by decide)
  | .op8078 _ => Laws.fitsF2 0x8078 rfl (by decide)
  | .op80BF _ => Laws.fitsF2 0x80BF rfl (by decide)
  | .op80FE _ => Laws.fitsF2 0x80FE rfl (by decide)

theorem Laws.EncodingFits.ora (form : AluForm) : Laws.EncodingFits.Statement (.ora form) :=
  match form with
  | .other => Laws.fitsF0 0x0036 rfl (by decide)
  | .index => Laws.fitsF0 0x0038 rfl (by decide)
  | .imm8 _ => Laws.fitsF1 0x401D rfl (by decide)
  | .mem (.zp _) => Laws.fitsF1 0x401E rfl (by decide)
  | .mem (.zpX _) => Laws.fitsF1 0x401F rfl (by decide)
  | .mem (.abs _) => Laws.fitsF2 0x8059 rfl (by decide)
  | .mem (.absX _) => Laws.fitsF2 0x805A rfl (by decide)
  | .mem (.ind _) => Laws.fitsF2 0x805B rfl (by decide)
  | .mem (.indX _) => Laws.fitsF2 0x805C rfl (by decide)
  | .imm16 _ => Laws.fitsF2 0x8061 rfl (by decide)

theorem Laws.EncodingFits.orb (form : AluForm) : Laws.EncodingFits.Statement (.orb form) :=
  match form with
  | .other => Laws.fitsF0 0x0037 rfl (by decide)
  | .index => Laws.fitsF0 0x0039 rfl (by decide)
  | .imm8 _ => Laws.fitsF1 0x4020 rfl (by decide)
  | .mem (.zp _) => Laws.fitsF1 0x4021 rfl (by decide)
  | .mem (.zpX _) => Laws.fitsF1 0x4022 rfl (by decide)
  | .mem (.abs _) => Laws.fitsF2 0x805D rfl (by decide)
  | .mem (.absX _) => Laws.fitsF2 0x805E rfl (by decide)
  | .mem (.ind _) => Laws.fitsF2 0x805F rfl (by decide)
  | .mem (.indX _) => Laws.fitsF2 0x8060 rfl (by decide)
  | .imm16 _ => Laws.fitsF2 0x8062 rfl (by decide)

theorem Laws.EncodingFits.pop (form : PopForm) : Laws.EncodingFits.Statement (.pop form) :=
  match form with
  | .accumulator => Laws.fitsF0 0x0065 rfl (by decide)
  | .base => Laws.fitsF0 0x0066 rfl (by decide)
  | .ah => Laws.fitsF0 0x0067 rfl (by decide)
  | .al => Laws.fitsF0 0x0068 rfl (by decide)

theorem Laws.EncodingFits.psh (form : PushForm) : Laws.EncodingFits.Statement (.psh form) :=
  match form with
  | .accumulator => Laws.fitsF0 0x003A rfl (by decide)
  | .base => Laws.fitsF0 0x003B rfl (by decide)
  | .ah => Laws.fitsF0 0x003C rfl (by decide)
  | .al => Laws.fitsF0 0x003D rfl (by decide)
  | .frame => Laws.fitsF0 0x0064 rfl (by decide)
  | .imm8 _ => Laws.fitsF1 0x4001 rfl (by decide)
  | .mem (.zpX _) => Laws.fitsF1 0x4002 rfl (by decide)
  | .mem (.zp _) => Laws.fitsF1 0x4003 rfl (by decide)
  | .mem (.abs _) => Laws.fitsF2 0x8001 rfl (by decide)
  | .mem (.ind _) => Laws.fitsF2 0x8002 rfl (by decide)
  | .mem (.indX _) => Laws.fitsF2 0x8003 rfl (by decide)

theorem Laws.EncodingFits.read (form : ReadForm) : Laws.EncodingFits.Statement (.read form) :=
  match form with
  | .accumulator => Laws.fitsF0 0x003E rfl (by decide)
  | .base => Laws.fitsF0 0x003F rfl (by decide)
  | .zp _ => Laws.fitsF1 0x4024 rfl (by decide)
  | .zpX _ => Laws.fitsF1 0x4025 rfl (by decide)
  | .abs _ => Laws.fitsF2 0x8063 rfl (by decide)
  | .absX _ => Laws.fitsF2 0x8064 rfl (by decide)

theorem Laws.EncodingFits.rest : Laws.EncodingFits.Statement .rest :=
  Laws.fitsF0 0x3FFE rfl (by decide)

theorem Laws.EncodingFits.ret : Laws.EncodingFits.Statement .ret :=
  Laws.fitsF0 0x80FF rfl (by decide)

theorem Laws.EncodingFits.sed : Laws.EncodingFits.Statement .sed :=
  Laws.fitsF0 0x000F rfl (by decide)

theorem Laws.EncodingFits.sei : Laws.EncodingFits.Statement .sei :=
  Laws.fitsF0 0x000E rfl (by decide)

theorem Laws.EncodingFits.semh (form : MemMode) : Laws.EncodingFits.Statement (.semh form) :=
  match form with
  | .zp _ => Laws.fitsF1 0x4058 rfl (by decide)
  | .zpX _ => Laws.fitsF1 0x4059 rfl (by decide)
  | .abs _ => Laws.fitsF2 0x80B7 rfl (by decide)
  | .absX _ => Laws.fitsF2 0x80B8 rfl (by decide)
  | .ind _ => Laws.fitsF2 0x80B9 rfl (by decide)
  | .indX _ => Laws.fitsF2 0x80BA rfl (by decide)

theorem Laws.EncodingFits.seml (form : MemMode) : Laws.EncodingFits.Statement (.seml form) :=
  match form with
  | .zp _ => Laws.fitsF1 0x405A rfl (by decide)
  | .zpX _ => Laws.fitsF1 0x405B rfl (by decide)
  | .abs _ => Laws.fitsF2 0x80BB rfl (by decide)
  | .absX _ => Laws.fitsF2 0x80BC rfl (by decide)
  | .ind _ => Laws.fitsF2 0x80BD rfl (by decide)
  | .indX _ => Laws.fitsF2 0x80BE rfl (by decide)

theorem Laws.EncodingFits.ses : Laws.EncodingFits.Statement .ses :=
  Laws.fitsF0 0x0062 rfl (by decide)

theorem Laws.EncodingFits.shl (form : ShiftForm) : Laws.EncodingFits.Statement (.shl form) :=
  match form with
  | .accumulator => Laws.fitsF0 0x0040 rfl (by decide)
  | .base => Laws.fitsF0 0x0041 rfl (by decide)
  | .index => Laws.fitsF0 0x0042 rfl (by decide)

theorem Laws.EncodingFits.shr (form : ShiftForm) : Laws.EncodingFits.Statement (.shr form) :=
  match form with
  | .accumulator => Laws.fitsF0 0x0043 rfl (by decide)
  | .base => Laws.fitsF0 0x0044 rfl (by decide)
  | .index => Laws.fitsF0 0x0045 rfl (by decide)

theorem Laws.EncodingFits.simh (form : MemMode) : Laws.EncodingFits.Statement (.simh form) :=
  match form with
  | .zp _ => Laws.fitsF1 0x404F rfl (by decide)
  | .zpX _ => Laws.fitsF1 0x4050 rfl (by decide)
  | .abs _ => Laws.fitsF2 0x8093 rfl (by decide)
  | .absX _ => Laws.fitsF2 0x8094 rfl (by decide)
  | .ind _ => Laws.fitsF2 0x8095 rfl (by decide)
  | .indX _ => Laws.fitsF2 0x8096 rfl (by decide)

theorem Laws.EncodingFits.siml (form : MemMode) : Laws.EncodingFits.Statement (.siml form) :=
  match form with
  | .zp _ => Laws.fitsF1 0x4051 rfl (by decide)
  | .zpX _ => Laws.fitsF1 0x4052 rfl (by decide)
  | .abs _ => Laws.fitsF2 0x8097 rfl (by decide)
  | .absX _ => Laws.fitsF2 0x8098 rfl (by decide)
  | .ind _ => Laws.fitsF2 0x8099 rfl (by decide)
  | .indX _ => Laws.fitsF2 0x809A rfl (by decide)

theorem Laws.EncodingFits.sta (form : MemMode) : Laws.EncodingFits.Statement (.sta form) :=
  match form with
  | .zp _ => Laws.fitsF1 0x4026 rfl (by decide)
  | .zpX _ => Laws.fitsF1 0x4027 rfl (by decide)
  | .abs _ => Laws.fitsF2 0x8065 rfl (by decide)
  | .absX _ => Laws.fitsF2 0x8066 rfl (by decide)
  | .ind _ => Laws.fitsF2 0x8067 rfl (by decide)
  | .indX _ => Laws.fitsF2 0x8068 rfl (by decide)

theorem Laws.EncodingFits.stah (form : MemMode) : Laws.EncodingFits.Statement (.stah form) :=
  match form with
  | .zp _ => Laws.fitsF1 0x4028 rfl (by decide)
  | .zpX _ => Laws.fitsF1 0x4029 rfl (by decide)
  | .abs _ => Laws.fitsF2 0x8069 rfl (by decide)
  | .absX _ => Laws.fitsF2 0x806A rfl (by decide)
  | .ind _ => Laws.fitsF2 0x806B rfl (by decide)
  | .indX _ => Laws.fitsF2 0x806C rfl (by decide)

theorem Laws.EncodingFits.stb (form : MemMode) : Laws.EncodingFits.Statement (.stb form) :=
  match form with
  | .zp _ => Laws.fitsF1 0x402A rfl (by decide)
  | .zpX _ => Laws.fitsF1 0x402B rfl (by decide)
  | .abs _ => Laws.fitsF2 0x806D rfl (by decide)
  | .absX _ => Laws.fitsF2 0x806E rfl (by decide)
  | .ind _ => Laws.fitsF2 0x806F rfl (by decide)
  | .indX _ => Laws.fitsF2 0x8070 rfl (by decide)

theorem Laws.EncodingFits.stbh (form : MemMode) : Laws.EncodingFits.Statement (.stbh form) :=
  match form with
  | .zp _ => Laws.fitsF1 0x402C rfl (by decide)
  | .zpX _ => Laws.fitsF1 0x402D rfl (by decide)
  | .abs _ => Laws.fitsF2 0x8071 rfl (by decide)
  | .absX _ => Laws.fitsF2 0x8072 rfl (by decide)
  | .ind _ => Laws.fitsF2 0x8073 rfl (by decide)
  | .indX _ => Laws.fitsF2 0x8074 rfl (by decide)

theorem Laws.EncodingFits.sti (form : ZpAbsIndMode) : Laws.EncodingFits.Statement (.sti form) :=
  match form with
  | .zp _ => Laws.fitsF1 0x402E rfl (by decide)
  | .abs _ => Laws.fitsF2 0x8075 rfl (by decide)
  | .ind _ => Laws.fitsF2 0x8077 rfl (by decide)

theorem Laws.EncodingFits.stj (form : StjMode) : Laws.EncodingFits.Statement (.stj form) :=
  match form with
  | .zp _ => Laws.fitsF1 0x402F rfl (by decide)
  | .abs _ => Laws.fitsF2 0x8079 rfl (by decide)
  | .absX _ => Laws.fitsF2 0x807A rfl (by decide)
  | .ind _ => Laws.fitsF2 0x807B rfl (by decide)
  | .indX _ => Laws.fitsF2 0x807C rfl (by decide)

theorem Laws.EncodingFits.stpc (arg : Word) : Laws.EncodingFits.Statement (.stpc arg) :=
  Laws.fitsF2 0x80A7 rfl (by decide)

theorem Laws.EncodingFits.stsr (arg : Word) : Laws.EncodingFits.Statement (.stsr arg) :=
  Laws.fitsF2 0x80A8 rfl (by decide)

theorem Laws.EncodingFits.sua (form : AluForm) : Laws.EncodingFits.Statement (.sua form) :=
  match form with
  | .other => Laws.fitsF0 0x0046 rfl (by decide)
  | .index => Laws.fitsF0 0x0048 rfl (by decide)
  | .imm8 _ => Laws.fitsF1 0x4030 rfl (by decide)
  | .mem (.zp _) => Laws.fitsF1 0x4031 rfl (by decide)
  | .mem (.zpX _) => Laws.fitsF1 0x4032 rfl (by decide)
  | .mem (.abs _) => Laws.fitsF2 0x807D rfl (by decide)
  | .mem (.absX _) => Laws.fitsF2 0x807E rfl (by decide)
  | .mem (.ind _) => Laws.fitsF2 0x807F rfl (by decide)
  | .mem (.indX _) => Laws.fitsF2 0x8080 rfl (by decide)
  | .imm16 _ => Laws.fitsF2 0x809B rfl (by decide)

theorem Laws.EncodingFits.sub (form : AluForm) : Laws.EncodingFits.Statement (.sub form) :=
  match form with
  | .other => Laws.fitsF0 0x0047 rfl (by decide)
  | .index => Laws.fitsF0 0x0049 rfl (by decide)
  | .imm8 _ => Laws.fitsF1 0x4033 rfl (by decide)
  | .mem (.zp _) => Laws.fitsF1 0x4034 rfl (by decide)
  | .mem (.zpX _) => Laws.fitsF1 0x4035 rfl (by decide)
  | .mem (.abs _) => Laws.fitsF2 0x8081 rfl (by decide)
  | .mem (.absX _) => Laws.fitsF2 0x8082 rfl (by decide)
  | .mem (.ind _) => Laws.fitsF2 0x8083 rfl (by decide)
  | .mem (.indX _) => Laws.fitsF2 0x8084 rfl (by decide)
  | .imm16 _ => Laws.fitsF2 0x809C rfl (by decide)

theorem Laws.EncodingFits.sys : Laws.EncodingFits.Statement .sys :=
  Laws.fitsF0 0x3FFF rfl (by decide)

theorem Laws.EncodingFits.tab : Laws.EncodingFits.Statement .tab :=
  Laws.fitsF0 0x004A rfl (by decide)

theorem Laws.EncodingFits.tabh : Laws.EncodingFits.Statement .tabh :=
  Laws.fitsF0 0x002E rfl (by decide)

theorem Laws.EncodingFits.tabl : Laws.EncodingFits.Statement .tabl :=
  Laws.fitsF0 0x005A rfl (by decide)

theorem Laws.EncodingFits.tadr : Laws.EncodingFits.Statement .tadr :=
  Laws.fitsF0 0x005B rfl (by decide)

theorem Laws.EncodingFits.taemh : Laws.EncodingFits.Statement .taemh :=
  Laws.fitsF0 0x005F rfl (by decide)

theorem Laws.EncodingFits.taeml : Laws.EncodingFits.Statement .taeml :=
  Laws.fitsF0 0x0060 rfl (by decide)

theorem Laws.EncodingFits.tahj : Laws.EncodingFits.Statement .tahj :=
  Laws.fitsF0 0x0031 rfl (by decide)

theorem Laws.EncodingFits.tai : Laws.EncodingFits.Statement .tai :=
  Laws.fitsF0 0x004B rfl (by decide)

theorem Laws.EncodingFits.taimh : Laws.EncodingFits.Statement .taimh :=
  Laws.fitsF0 0x005C rfl (by decide)

theorem Laws.EncodingFits.taiml : Laws.EncodingFits.Statement .taiml :=
  Laws.fitsF0 0x005D rfl (by decide)

theorem Laws.EncodingFits.tba : Laws.EncodingFits.Statement .tba :=
  Laws.fitsF0 0x004C rfl (by decide)

theorem Laws.EncodingFits.tbah : Laws.EncodingFits.Statement .tbah :=
  Laws.fitsF0 0x002D rfl (by decide)

theorem Laws.EncodingFits.tbal : Laws.EncodingFits.Statement .tbal :=
  Laws.fitsF0 0x0059 rfl (by decide)

theorem Laws.EncodingFits.tbhj : Laws.EncodingFits.Statement .tbhj :=
  Laws.fitsF0 0x0032 rfl (by decide)

theorem Laws.EncodingFits.tbi : Laws.EncodingFits.Statement .tbi :=
  Laws.fitsF0 0x004D rfl (by decide)

theorem Laws.EncodingFits.tisp : Laws.EncodingFits.Statement .tisp :=
  Laws.fitsF0 0x004E rfl (by decide)

theorem Laws.EncodingFits.tspb : Laws.EncodingFits.Statement .tspb :=
  Laws.fitsF0 0x004F rfl (by decide)

theorem Laws.EncodingFits.wrte (form : WrteForm) : Laws.EncodingFits.Statement (.wrte form) :=
  match form with
  | .abs _ => Laws.fitsF2 0x8085 rfl (by decide)
  | .absX _ => Laws.fitsF2 0x8087 rfl (by decide)

theorem Laws.EncodingFits.wrti (form : WrtiForm) : Laws.EncodingFits.Statement (.wrti form) :=
  match form with
  | .ah => Laws.fitsF0 0x0050 rfl (by decide)
  | .bh => Laws.fitsF0 0x0051 rfl (by decide)
  | .imm8 _ => Laws.fitsF1 0x4036 rfl (by decide)
  | .mem (.zp _) => Laws.fitsF1 0x4037 rfl (by decide)
  | .mem (.abs _) => Laws.fitsF2 0x8088 rfl (by decide)
  | .mem (.ind _) => Laws.fitsF2 0x8089 rfl (by decide)

theorem Laws.EncodingFits.xora (form : AluForm) : Laws.EncodingFits.Statement (.xora form) :=
  match form with
  | .other => Laws.fitsF0 0x0052 rfl (by decide)
  | .index => Laws.fitsF0 0x0054 rfl (by decide)
  | .imm8 _ => Laws.fitsF1 0x4039 rfl (by decide)
  | .mem (.zp _) => Laws.fitsF1 0x403A rfl (by decide)
  | .mem (.zpX _) => Laws.fitsF1 0x403B rfl (by decide)
  | .mem (.abs _) => Laws.fitsF2 0x809D rfl (by decide)
  | .mem (.absX _) => Laws.fitsF2 0x809E rfl (by decide)
  | .mem (.ind _) => Laws.fitsF2 0x809F rfl (by decide)
  | .mem (.indX _) => Laws.fitsF2 0x80A0 rfl (by decide)
  | .imm16 _ => Laws.fitsF2 0x80A5 rfl (by decide)

theorem Laws.EncodingFits.xorb (form : AluForm) : Laws.EncodingFits.Statement (.xorb form) :=
  match form with
  | .other => Laws.fitsF0 0x0053 rfl (by decide)
  | .index => Laws.fitsF0 0x0055 rfl (by decide)
  | .imm8 _ => Laws.fitsF1 0x403C rfl (by decide)
  | .mem (.zp _) => Laws.fitsF1 0x403D rfl (by decide)
  | .mem (.zpX _) => Laws.fitsF1 0x403E rfl (by decide)
  | .mem (.abs _) => Laws.fitsF2 0x80A1 rfl (by decide)
  | .mem (.absX _) => Laws.fitsF2 0x80A2 rfl (by decide)
  | .mem (.ind _) => Laws.fitsF2 0x80A3 rfl (by decide)
  | .mem (.indX _) => Laws.fitsF2 0x80A4 rfl (by decide)
  | .imm16 _ => Laws.fitsF2 0x80A6 rfl (by decide)

end Sys2Proof
end

