-- ==== Sys2Proof/Tests/Slice0.lean ====
section
/-! SUPPORT. Tests: ill-formed encodings are refused; every row of spec/opcode_table.json decodes and encodes; single
steps with the values of spec/95_test_vectors.md (the vector's id ends the test's name) and spec/96_test_programs.md;
witnesses that the hypotheses of the statements can be met. No expected value comes from the model. -/

namespace Sys2Proof.Tests

open Sys2Proof.Machine

/-! ## WellFormed: each check refuses an ill-formed encoding -/

theorem test_wellFormed_accepts : RawInstr.wellFormed ⟨0x8004, [0x35, 0x00]⟩ = true := by decide
theorem test_wellFormed_accepts_ret : RawInstr.wellFormed ⟨0x80FF, []⟩ = true := by decide
theorem test_refused_gap_005E : RawInstr.wellFormed ⟨0x005E, []⟩ = false := by decide
theorem test_refused_range_3FFB : RawInstr.wellFormed ⟨0x3FFB, []⟩ = false := by decide
theorem test_refused_range_405E : RawInstr.wellFormed ⟨0x405E, [0x00]⟩ = false := by decide
theorem test_refused_gap_80AA : RawInstr.wellFormed ⟨0x80AA, [0x00, 0x00]⟩ = false := by decide
theorem test_refused_gap_80C0 : RawInstr.wellFormed ⟨0x80C0, [0x00, 0x00]⟩ = false := by decide
theorem test_refused_above_8100 : RawInstr.wellFormed ⟨0x8100, [0x00, 0x00]⟩ = false := by decide
theorem test_refused_top_FFFF : RawInstr.wellFormed ⟨0xFFFF, [0x00, 0x00, 0x00]⟩ = false := by decide
theorem test_refused_too_few_bytes : RawInstr.wellFormed ⟨0x8004, [0x35]⟩ = false := by decide
theorem test_refused_too_many_bytes : RawInstr.wellFormed ⟨0x4004, [0x01, 0x00]⟩ = false := by decide
theorem test_refused_ret_with_bytes : RawInstr.wellFormed ⟨0x80FF, [0x00, 0x00]⟩ = false := by decide

/-! ## Decoding and encoding: every row of the table, written out from its opcode and the order of its argument bytes
(R70-R76, R83); 0x9B stands for a one-byte argument, 0x12 0x34 for a word -/

/-- Each list of bytes decodes to the instruction beside it, which encodes to the same bytes. -/
def codes (l : List (List Byte × Instr)) : Bool :=
  l.all fun x => decide (decode x.1 = .ok (x.2, [])) && decide (encode x.2 = x.1)

theorem test_decode_arithmetic_1 : codes [
    ([0x00, 0x04], .ina), ([0x00, 0x05], .inb), ([0x00, 0x06], .ini), ([0x00, 0x07], .inj), ([0x00, 0x08], .dea),
    ([0x00, 0x09], .deb), ([0x00, 0x0A], .dei), ([0x00, 0x0B], .dej), ([0x00, 0x14], .ada .other),
    ([0x00, 0x15], .adb .other), ([0x00, 0x46], .sua .other), ([0x00, 0x47], .sub .other),
    ([0x00, 0x48], .sua .index), ([0x00, 0x49], .sub .index), ([0x40, 0x04, 0x9B], .ada (.imm8 0x9B)),
    ([0x40, 0x05, 0x9B], .ada (.mem (.zp 0x9B))), ([0x40, 0x06, 0x9B], .ada (.mem (.zpX 0x9B))),
    ([0x40, 0x07, 0x9B], .adb (.imm8 0x9B)), ([0x40, 0x08, 0x9B], .adb (.mem (.zp 0x9B))),
    ([0x40, 0x09, 0x9B], .adb (.mem (.zpX 0x9B))), ([0x40, 0x30, 0x9B], .sua (.imm8 0x9B)),
    ([0x40, 0x31, 0x9B], .sua (.mem (.zp 0x9B))), ([0x40, 0x32, 0x9B], .sua (.mem (.zpX 0x9B)))]
    = true := by decide

theorem test_decode_arithmetic_2 : codes [
    ([0x40, 0x33, 0x9B], .sub (.imm8 0x9B)), ([0x40, 0x34, 0x9B], .sub (.mem (.zp 0x9B))),
    ([0x40, 0x35, 0x9B], .sub (.mem (.zpX 0x9B))), ([0x80, 0x04, 0x12, 0x34], .ada (.mem (.abs 0x1234))),
    ([0x80, 0x05, 0x12, 0x34], .ada (.mem (.absX 0x1234))), ([0x80, 0x06, 0x12, 0x34], .ada (.mem (.ind 0x1234))),
    ([0x80, 0x07, 0x12, 0x34], .ada (.mem (.indX 0x1234))), ([0x80, 0x08, 0x12, 0x34], .adb (.mem (.abs 0x1234))),
    ([0x80, 0x09, 0x12, 0x34], .adb (.mem (.absX 0x1234))), ([0x80, 0x0A, 0x12, 0x34], .adb (.mem (.ind 0x1234))),
    ([0x80, 0x0B, 0x12, 0x34], .adb (.mem (.indX 0x1234))), ([0x80, 0x33, 0x12, 0x34], .ada (.imm16 0x1234)),
    ([0x80, 0x34, 0x12, 0x34], .adb (.imm16 0x1234)), ([0x80, 0x7D, 0x12, 0x34], .sua (.mem (.abs 0x1234))),
    ([0x80, 0x7E, 0x12, 0x34], .sua (.mem (.absX 0x1234))), ([0x80, 0x7F, 0x12, 0x34], .sua (.mem (.ind 0x1234))),
    ([0x80, 0x80, 0x12, 0x34], .sua (.mem (.indX 0x1234))), ([0x80, 0x81, 0x12, 0x34], .sub (.mem (.abs 0x1234))),
    ([0x80, 0x82, 0x12, 0x34], .sub (.mem (.absX 0x1234))), ([0x80, 0x83, 0x12, 0x34], .sub (.mem (.ind 0x1234))),
    ([0x80, 0x84, 0x12, 0x34], .sub (.mem (.indX 0x1234))), ([0x80, 0x9B, 0x12, 0x34], .sua (.imm16 0x1234)),
    ([0x80, 0x9C, 0x12, 0x34], .sub (.imm16 0x1234))]
    = true := by decide

theorem test_decode_logical_1 : codes [
    ([0x00, 0x16], .ana .other), ([0x00, 0x17], .anb .other), ([0x00, 0x18], .ana .index),
    ([0x00, 0x19], .anb .index), ([0x00, 0x36], .ora .other), ([0x00, 0x37], .orb .other),
    ([0x00, 0x38], .ora .index), ([0x00, 0x39], .orb .index), ([0x00, 0x52], .xora .other),
    ([0x00, 0x53], .xorb .other), ([0x00, 0x54], .xora .index), ([0x00, 0x55], .xorb .index),
    ([0x40, 0x0A, 0x9B], .ana (.imm8 0x9B)), ([0x40, 0x0B, 0x9B], .ana (.mem (.zp 0x9B))),
    ([0x40, 0x0C, 0x9B], .ana (.mem (.zpX 0x9B))), ([0x40, 0x0D, 0x9B], .anb (.imm8 0x9B)),
    ([0x40, 0x0E, 0x9B], .anb (.mem (.zp 0x9B))), ([0x40, 0x0F, 0x9B], .anb (.mem (.zpX 0x9B))),
    ([0x40, 0x1D, 0x9B], .ora (.imm8 0x9B)), ([0x40, 0x1E, 0x9B], .ora (.mem (.zp 0x9B))),
    ([0x40, 0x1F, 0x9B], .ora (.mem (.zpX 0x9B))), ([0x40, 0x20, 0x9B], .orb (.imm8 0x9B)),
    ([0x40, 0x21, 0x9B], .orb (.mem (.zp 0x9B))), ([0x40, 0x22, 0x9B], .orb (.mem (.zpX 0x9B))),
    ([0x40, 0x39, 0x9B], .xora (.imm8 0x9B)), ([0x40, 0x3A, 0x9B], .xora (.mem (.zp 0x9B))),
    ([0x40, 0x3B, 0x9B], .xora (.mem (.zpX 0x9B))), ([0x40, 0x3C, 0x9B], .xorb (.imm8 0x9B)),
    ([0x40, 0x3D, 0x9B], .xorb (.mem (.zp 0x9B))), ([0x40, 0x3E, 0x9B], .xorb (.mem (.zpX 0x9B)))]
    = true := by decide

theorem test_decode_logical_2 : codes [
    ([0x80, 0x0C, 0x12, 0x34], .ana (.mem (.abs 0x1234))), ([0x80, 0x0D, 0x12, 0x34], .ana (.mem (.absX 0x1234))),
    ([0x80, 0x0E, 0x12, 0x34], .ana (.mem (.ind 0x1234))), ([0x80, 0x0F, 0x12, 0x34], .ana (.mem (.indX 0x1234))),
    ([0x80, 0x10, 0x12, 0x34], .anb (.mem (.abs 0x1234))), ([0x80, 0x11, 0x12, 0x34], .anb (.mem (.absX 0x1234))),
    ([0x80, 0x12, 0x12, 0x34], .anb (.mem (.ind 0x1234))), ([0x80, 0x13, 0x12, 0x34], .anb (.mem (.indX 0x1234))),
    ([0x80, 0x35, 0x12, 0x34], .ana (.imm16 0x1234)), ([0x80, 0x36, 0x12, 0x34], .anb (.imm16 0x1234)),
    ([0x80, 0x59, 0x12, 0x34], .ora (.mem (.abs 0x1234))), ([0x80, 0x5A, 0x12, 0x34], .ora (.mem (.absX 0x1234))),
    ([0x80, 0x5B, 0x12, 0x34], .ora (.mem (.ind 0x1234))), ([0x80, 0x5C, 0x12, 0x34], .ora (.mem (.indX 0x1234))),
    ([0x80, 0x5D, 0x12, 0x34], .orb (.mem (.abs 0x1234))), ([0x80, 0x5E, 0x12, 0x34], .orb (.mem (.absX 0x1234))),
    ([0x80, 0x5F, 0x12, 0x34], .orb (.mem (.ind 0x1234))), ([0x80, 0x60, 0x12, 0x34], .orb (.mem (.indX 0x1234))),
    ([0x80, 0x61, 0x12, 0x34], .ora (.imm16 0x1234)), ([0x80, 0x62, 0x12, 0x34], .orb (.imm16 0x1234)),
    ([0x80, 0x9D, 0x12, 0x34], .xora (.mem (.abs 0x1234))), ([0x80, 0x9E, 0x12, 0x34], .xora (.mem (.absX 0x1234))),
    ([0x80, 0x9F, 0x12, 0x34], .xora (.mem (.ind 0x1234))), ([0x80, 0xA0, 0x12, 0x34], .xora (.mem (.indX 0x1234))),
    ([0x80, 0xA1, 0x12, 0x34], .xorb (.mem (.abs 0x1234))), ([0x80, 0xA2, 0x12, 0x34], .xorb (.mem (.absX 0x1234))),
    ([0x80, 0xA3, 0x12, 0x34], .xorb (.mem (.ind 0x1234))), ([0x80, 0xA4, 0x12, 0x34], .xorb (.mem (.indX 0x1234))),
    ([0x80, 0xA5, 0x12, 0x34], .xora (.imm16 0x1234)), ([0x80, 0xA6, 0x12, 0x34], .xorb (.imm16 0x1234))]
    = true := by decide

theorem test_decode_shift : codes [
    ([0x00, 0x40], .shl .accumulator), ([0x00, 0x41], .shl .base), ([0x00, 0x42], .shl .index),
    ([0x00, 0x43], .shr .accumulator), ([0x00, 0x44], .shr .base), ([0x00, 0x45], .shr .index)]
    = true := by decide

theorem test_decode_load_1 : codes [
    ([0x40, 0x18, 0x9B], .ldah (.imm 0x9B)), ([0x40, 0x19, 0x9B], .ldal (.imm 0x9B)),
    ([0x40, 0x1A, 0x9B], .ldbh (.imm 0x9B)), ([0x40, 0x1B, 0x9B], .ldbl (.imm 0x9B)),
    ([0x40, 0x1C, 0x9B], .ldj (.imm 0x9B)), ([0x40, 0x4A, 0x9B], .ldj (.mem (.zp 0x9B))),
    ([0x40, 0x4B, 0x9B], .limh (.mem (.zp 0x9B))), ([0x40, 0x4C, 0x9B], .limh (.mem (.zpX 0x9B))),
    ([0x40, 0x4D, 0x9B], .liml (.mem (.zp 0x9B))), ([0x40, 0x4E, 0x9B], .liml (.mem (.zpX 0x9B))),
    ([0x40, 0x53, 0x9B], .ldsr (.imm 0x9B)), ([0x40, 0x54, 0x9B], .lemh (.mem (.zp 0x9B))),
    ([0x40, 0x55, 0x9B], .lemh (.mem (.zpX 0x9B))), ([0x40, 0x56, 0x9B], .leml (.mem (.zp 0x9B))),
    ([0x40, 0x57, 0x9B], .leml (.mem (.zpX 0x9B))), ([0x80, 0x37, 0x12, 0x34], .lda (.mem (.abs 0x1234))),
    ([0x80, 0x38, 0x12, 0x34], .lda (.mem (.absX 0x1234))), ([0x80, 0x39, 0x12, 0x34], .lda (.mem (.ind 0x1234))),
    ([0x80, 0x3A, 0x12, 0x34], .lda (.mem (.indX 0x1234))), ([0x80, 0x3B, 0x12, 0x34], .ldah (.mem (.abs 0x1234))),
    ([0x80, 0x3C, 0x12, 0x34], .ldah (.mem (.absX 0x1234))), ([0x80, 0x3D, 0x12, 0x34], .ldah (.mem (.ind 0x1234)))]
    = true := by decide

theorem test_decode_load_2 : codes [
    ([0x80, 0x3E, 0x12, 0x34], .ldah (.mem (.indX 0x1234))), ([0x80, 0x3F, 0x12, 0x34], .ldal (.mem (.abs 0x1234))),
    ([0x80, 0x40, 0x12, 0x34], .ldal (.mem (.absX 0x1234))), ([0x80, 0x41, 0x12, 0x34], .ldal (.mem (.ind 0x1234))),
    ([0x80, 0x42, 0x12, 0x34], .ldal (.mem (.indX 0x1234))), ([0x80, 0x43, 0x12, 0x34], .ldb (.mem (.abs 0x1234))),
    ([0x80, 0x44, 0x12, 0x34], .ldb (.mem (.absX 0x1234))), ([0x80, 0x45, 0x12, 0x34], .ldb (.mem (.ind 0x1234))),
    ([0x80, 0x46, 0x12, 0x34], .ldb (.mem (.indX 0x1234))), ([0x80, 0x47, 0x12, 0x34], .ldbh (.mem (.abs 0x1234))),
    ([0x80, 0x48, 0x12, 0x34], .ldbh (.mem (.absX 0x1234))), ([0x80, 0x49, 0x12, 0x34], .ldbh (.mem (.ind 0x1234))),
    ([0x80, 0x4A, 0x12, 0x34], .ldbh (.mem (.indX 0x1234))), ([0x80, 0x4B, 0x12, 0x34], .ldbl (.mem (.abs 0x1234))),
    ([0x80, 0x4C, 0x12, 0x34], .ldbl (.mem (.absX 0x1234))), ([0x80, 0x4D, 0x12, 0x34], .ldbl (.mem (.ind 0x1234))),
    ([0x80, 0x4E, 0x12, 0x34], .ldbl (.mem (.indX 0x1234))), ([0x80, 0x4F, 0x12, 0x34], .ldi (.mem (.abs 0x1234))),
    ([0x80, 0x50, 0x12, 0x34], .ldi (.mem (.ind 0x1234))), ([0x80, 0x51, 0x12, 0x34], .ldj (.mem (.abs 0x1234))),
    ([0x80, 0x52, 0x12, 0x34], .ldj (.mem (.ind 0x1234))), ([0x80, 0x53, 0x12, 0x34], .lda (.imm 0x1234))]
    = true := by decide

theorem test_decode_load_3 : codes [
    ([0x80, 0x54, 0x12, 0x34], .ldb (.imm 0x1234)), ([0x80, 0x55, 0x12, 0x34], .ldi (.imm 0x1234)),
    ([0x80, 0x56, 0x12, 0x34], .ldsp (.mem (.abs 0x1234))), ([0x80, 0x57, 0x12, 0x34], .ldsp (.mem (.ind 0x1234))),
    ([0x80, 0x58, 0x12, 0x34], .ldsp (.imm 0x1234)), ([0x80, 0x8A, 0x12, 0x34], .lddr (.mem (.abs 0x1234))),
    ([0x80, 0x8B, 0x12, 0x34], .lddr (.mem (.ind 0x1234))), ([0x80, 0x8C, 0x12, 0x34], .lddr (.imm 0x1234)),
    ([0x80, 0x8D, 0x12, 0x34], .limh (.mem (.abs 0x1234))), ([0x80, 0x8E, 0x12, 0x34], .limh (.mem (.ind 0x1234))),
    ([0x80, 0x8F, 0x12, 0x34], .limh (.imm 0x1234)), ([0x80, 0x90, 0x12, 0x34], .liml (.mem (.abs 0x1234))),
    ([0x80, 0x91, 0x12, 0x34], .liml (.mem (.ind 0x1234))), ([0x80, 0x92, 0x12, 0x34], .liml (.imm 0x1234)),
    ([0x80, 0xA9, 0x12, 0x34], .ldsr (.mem (.abs 0x1234))), ([0x80, 0xB0, 0x12, 0x34], .ldsr (.mem (.ind 0x1234))),
    ([0x80, 0xB1, 0x12, 0x34], .lemh (.mem (.abs 0x1234))), ([0x80, 0xB2, 0x12, 0x34], .lemh (.mem (.ind 0x1234))),
    ([0x80, 0xB3, 0x12, 0x34], .lemh (.imm 0x1234)), ([0x80, 0xB4, 0x12, 0x34], .leml (.mem (.abs 0x1234))),
    ([0x80, 0xB5, 0x12, 0x34], .leml (.mem (.ind 0x1234))), ([0x80, 0xB6, 0x12, 0x34], .leml (.imm 0x1234))]
    = true := by decide

theorem test_decode_transfer : codes [
    ([0x00, 0x2D], .tbah), ([0x00, 0x2E], .tabh), ([0x00, 0x31], .tahj), ([0x00, 0x32], .tbhj),
    ([0x00, 0x4A], .tab), ([0x00, 0x4B], .tai), ([0x00, 0x4C], .tba), ([0x00, 0x4D], .tbi), ([0x00, 0x4E], .tisp),
    ([0x00, 0x4F], .tspb), ([0x00, 0x59], .tbal), ([0x00, 0x5A], .tabl), ([0x00, 0x5B], .tadr),
    ([0x00, 0x5C], .taimh), ([0x00, 0x5D], .taiml), ([0x00, 0x5F], .taemh), ([0x00, 0x60], .taeml)]
    = true := by decide

theorem test_decode_store_1 : codes [
    ([0x40, 0x26, 0x9B], .sta (.zp 0x9B)), ([0x40, 0x27, 0x9B], .sta (.zpX 0x9B)),
    ([0x40, 0x28, 0x9B], .stah (.zp 0x9B)), ([0x40, 0x29, 0x9B], .stah (.zpX 0x9B)),
    ([0x40, 0x2A, 0x9B], .stb (.zp 0x9B)), ([0x40, 0x2B, 0x9B], .stb (.zpX 0x9B)),
    ([0x40, 0x2C, 0x9B], .stbh (.zp 0x9B)), ([0x40, 0x2D, 0x9B], .stbh (.zpX 0x9B)),
    ([0x40, 0x2E, 0x9B], .sti (.zp 0x9B)), ([0x40, 0x2F, 0x9B], .stj (.zp 0x9B)),
    ([0x40, 0x4F, 0x9B], .simh (.zp 0x9B)), ([0x40, 0x50, 0x9B], .simh (.zpX 0x9B)),
    ([0x40, 0x51, 0x9B], .siml (.zp 0x9B)), ([0x40, 0x52, 0x9B], .siml (.zpX 0x9B)),
    ([0x40, 0x58, 0x9B], .semh (.zp 0x9B)), ([0x40, 0x59, 0x9B], .semh (.zpX 0x9B)),
    ([0x40, 0x5A, 0x9B], .seml (.zp 0x9B)), ([0x40, 0x5B, 0x9B], .seml (.zpX 0x9B)),
    ([0x80, 0x65, 0x12, 0x34], .sta (.abs 0x1234)), ([0x80, 0x66, 0x12, 0x34], .sta (.absX 0x1234)),
    ([0x80, 0x67, 0x12, 0x34], .sta (.ind 0x1234)), ([0x80, 0x68, 0x12, 0x34], .sta (.indX 0x1234)),
    ([0x80, 0x69, 0x12, 0x34], .stah (.abs 0x1234)), ([0x80, 0x6A, 0x12, 0x34], .stah (.absX 0x1234)),
    ([0x80, 0x6B, 0x12, 0x34], .stah (.ind 0x1234)), ([0x80, 0x6C, 0x12, 0x34], .stah (.indX 0x1234)),
    ([0x80, 0x6D, 0x12, 0x34], .stb (.abs 0x1234)), ([0x80, 0x6E, 0x12, 0x34], .stb (.absX 0x1234)),
    ([0x80, 0x6F, 0x12, 0x34], .stb (.ind 0x1234))]
    = true := by decide

theorem test_decode_store_2 : codes [
    ([0x80, 0x70, 0x12, 0x34], .stb (.indX 0x1234)), ([0x80, 0x71, 0x12, 0x34], .stbh (.abs 0x1234)),
    ([0x80, 0x72, 0x12, 0x34], .stbh (.absX 0x1234)), ([0x80, 0x73, 0x12, 0x34], .stbh (.ind 0x1234)),
    ([0x80, 0x74, 0x12, 0x34], .stbh (.indX 0x1234)), ([0x80, 0x75, 0x12, 0x34], .sti (.abs 0x1234)),
    ([0x80, 0x77, 0x12, 0x34], .sti (.ind 0x1234)), ([0x80, 0x79, 0x12, 0x34], .stj (.abs 0x1234)),
    ([0x80, 0x7A, 0x12, 0x34], .stj (.absX 0x1234)), ([0x80, 0x7B, 0x12, 0x34], .stj (.ind 0x1234)),
    ([0x80, 0x7C, 0x12, 0x34], .stj (.indX 0x1234)), ([0x80, 0x93, 0x12, 0x34], .simh (.abs 0x1234)),
    ([0x80, 0x94, 0x12, 0x34], .simh (.absX 0x1234)), ([0x80, 0x95, 0x12, 0x34], .simh (.ind 0x1234)),
    ([0x80, 0x96, 0x12, 0x34], .simh (.indX 0x1234)), ([0x80, 0x97, 0x12, 0x34], .siml (.abs 0x1234)),
    ([0x80, 0x98, 0x12, 0x34], .siml (.absX 0x1234)), ([0x80, 0x99, 0x12, 0x34], .siml (.ind 0x1234)),
    ([0x80, 0x9A, 0x12, 0x34], .siml (.indX 0x1234)), ([0x80, 0xA7, 0x12, 0x34], .stpc 0x1234),
    ([0x80, 0xA8, 0x12, 0x34], .stsr 0x1234), ([0x80, 0xB7, 0x12, 0x34], .semh (.abs 0x1234)),
    ([0x80, 0xB8, 0x12, 0x34], .semh (.absX 0x1234)), ([0x80, 0xB9, 0x12, 0x34], .semh (.ind 0x1234)),
    ([0x80, 0xBA, 0x12, 0x34], .semh (.indX 0x1234)), ([0x80, 0xBB, 0x12, 0x34], .seml (.abs 0x1234)),
    ([0x80, 0xBC, 0x12, 0x34], .seml (.absX 0x1234)), ([0x80, 0xBD, 0x12, 0x34], .seml (.ind 0x1234)),
    ([0x80, 0xBE, 0x12, 0x34], .seml (.indX 0x1234))]
    = true := by decide

theorem test_decode_stack : codes [
    ([0x00, 0x3A], .psh .accumulator), ([0x00, 0x3B], .psh .base), ([0x00, 0x3C], .psh .ah),
    ([0x00, 0x3D], .psh .al), ([0x00, 0x64], .psh .frame), ([0x00, 0x65], .pop .accumulator),
    ([0x00, 0x66], .pop .base), ([0x00, 0x67], .pop .ah), ([0x00, 0x68], .pop .al),
    ([0x40, 0x01, 0x9B], .psh (.imm8 0x9B)), ([0x40, 0x02, 0x9B], .psh (.mem (.zpX 0x9B))),
    ([0x40, 0x03, 0x9B], .psh (.mem (.zp 0x9B))), ([0x80, 0x01, 0x12, 0x34], .psh (.mem (.abs 0x1234))),
    ([0x80, 0x02, 0x12, 0x34], .psh (.mem (.ind 0x1234))), ([0x80, 0x03, 0x12, 0x34], .psh (.mem (.indX 0x1234))),
    ([0x80, 0xFF], .ret)]
    = true := by decide

theorem test_decode_flag_compare_1 : codes [
    ([0x00, 0x02], .aret), ([0x00, 0x0E], .sei), ([0x00, 0x0F], .sed), ([0x00, 0x10], .clc), ([0x00, 0x11], .clo),
    ([0x00, 0x12], .cld), ([0x00, 0x13], .cli), ([0x00, 0x1A], .cmah .other), ([0x00, 0x1B], .cmbh .other),
    ([0x00, 0x1C], .cmpa .other), ([0x00, 0x1D], .cmpb .other), ([0x00, 0x1E], .cmpa .index),
    ([0x00, 0x1F], .cmpb .index), ([0x00, 0x20], .cmpi .accumulator), ([0x00, 0x61], .cls), ([0x00, 0x62], .ses),
    ([0x40, 0x3F, 0x9B], .cmah (.imm8 0x9B)), ([0x40, 0x40, 0x9B], .cmah (.mem (.zp 0x9B))),
    ([0x40, 0x41, 0x9B], .cmah (.mem (.zpX 0x9B))), ([0x40, 0x42, 0x9B], .cmbh (.imm8 0x9B)),
    ([0x40, 0x43, 0x9B], .cmbh (.mem (.zp 0x9B))), ([0x40, 0x44, 0x9B], .cmbh (.mem (.zpX 0x9B))),
    ([0x40, 0x45, 0x9B], .cmpa (.mem (.zp 0x9B))), ([0x40, 0x46, 0x9B], .cmpa (.mem (.zpX 0x9B)))]
    = true := by decide

theorem test_decode_flag_compare_2 : codes [
    ([0x40, 0x47, 0x9B], .cmpb (.mem (.zp 0x9B))), ([0x40, 0x48, 0x9B], .cmpb (.mem (.zpX 0x9B))),
    ([0x40, 0x49, 0x9B], .cmpi (.mem (.zp 0x9B))), ([0x80, 0x14, 0x12, 0x34], .cmah (.mem (.abs 0x1234))),
    ([0x80, 0x15, 0x12, 0x34], .cmah (.mem (.absX 0x1234))), ([0x80, 0x16, 0x12, 0x34], .cmah (.mem (.ind 0x1234))),
    ([0x80, 0x17, 0x12, 0x34], .cmah (.mem (.indX 0x1234))), ([0x80, 0x18, 0x12, 0x34], .cmbh (.mem (.abs 0x1234))),
    ([0x80, 0x19, 0x12, 0x34], .cmbh (.mem (.absX 0x1234))), ([0x80, 0x1A, 0x12, 0x34], .cmbh (.mem (.ind 0x1234))),
    ([0x80, 0x1B, 0x12, 0x34], .cmbh (.mem (.indX 0x1234))), ([0x80, 0x1C, 0x12, 0x34], .cmpa (.mem (.abs 0x1234))),
    ([0x80, 0x1D, 0x12, 0x34], .cmpa (.mem (.absX 0x1234))), ([0x80, 0x1E, 0x12, 0x34], .cmpa (.mem (.ind 0x1234))),
    ([0x80, 0x1F, 0x12, 0x34], .cmpa (.mem (.indX 0x1234))), ([0x80, 0x20, 0x12, 0x34], .cmpb (.mem (.abs 0x1234))),
    ([0x80, 0x21, 0x12, 0x34], .cmpb (.mem (.absX 0x1234))), ([0x80, 0x22, 0x12, 0x34], .cmpb (.mem (.ind 0x1234))),
    ([0x80, 0x23, 0x12, 0x34], .cmpb (.mem (.indX 0x1234))), ([0x80, 0x24, 0x12, 0x34], .cmpa (.imm16 0x1234)),
    ([0x80, 0x25, 0x12, 0x34], .cmpb (.imm16 0x1234)), ([0x80, 0x26, 0x12, 0x34], .cmpi (.imm16 0x1234)),
    ([0x80, 0x27, 0x12, 0x34], .cmpi (.mem (.abs 0x1234))), ([0x80, 0x28, 0x12, 0x34], .cmpi (.mem (.ind 0x1234)))]
    = true := by decide

theorem test_decode_jump_1 : codes [
    ([0x00, 0x21], .jcc .relJ), ([0x00, 0x22], .joc .relJ), ([0x00, 0x23], .jne .relJ), ([0x00, 0x24], .jnc .relJ),
    ([0x00, 0x25], .jcs .relJ), ([0x00, 0x26], .jos .relJ), ([0x00, 0x27], .jeq .relJ), ([0x00, 0x28], .jns .relJ),
    ([0x00, 0x56], .jmp .accumulator), ([0x00, 0x57], .jmp .base), ([0x00, 0x58], .jmp .index),
    ([0x00, 0x63], .jmp .relJ), ([0x40, 0x10, 0x9B], .jcc (.rel 0x9B)), ([0x40, 0x11, 0x9B], .joc (.rel 0x9B)),
    ([0x40, 0x12, 0x9B], .jne (.rel 0x9B)), ([0x40, 0x13, 0x9B], .jnc (.rel 0x9B))]
    = true := by decide

theorem test_decode_jump_2 : codes [
    ([0x40, 0x14, 0x9B], .jcs (.rel 0x9B)), ([0x40, 0x15, 0x9B], .jos (.rel 0x9B)),
    ([0x40, 0x16, 0x9B], .jeq (.rel 0x9B)), ([0x40, 0x17, 0x9B], .jns (.rel 0x9B)),
    ([0x40, 0x5C, 0x9B], .jmp (.rel 0x9B)), ([0x80, 0x29, 0x12, 0x34], .jcc (.abs 0x1234)),
    ([0x80, 0x2A, 0x12, 0x34], .joc (.abs 0x1234)), ([0x80, 0x2B, 0x12, 0x34], .jne (.abs 0x1234)),
    ([0x80, 0x2C, 0x12, 0x34], .jnc (.abs 0x1234)), ([0x80, 0x2D, 0x12, 0x34], .jcs (.abs 0x1234)),
    ([0x80, 0x2E, 0x12, 0x34], .jos (.abs 0x1234)), ([0x80, 0x2F, 0x12, 0x34], .jeq (.abs 0x1234)),
    ([0x80, 0x30, 0x12, 0x34], .jns (.abs 0x1234)), ([0x80, 0x31, 0x12, 0x34], .jmp (.abs 0x1234)),
    ([0x80, 0x32, 0x12, 0x34], .jmp (.ind 0x1234))]
    = true := by decide

theorem test_decode_system_io_1 : codes [
    ([0x00, 0x00], .nop .op0000), ([0x00, 0x01], .kill .op0001), ([0x00, 0x03], .cpuid),
    ([0x00, 0x0C], .msb .accumulator), ([0x00, 0x0D], .msb .base), ([0x00, 0x29], .nop .op0029),
    ([0x00, 0x2A], .nop .op002A), ([0x00, 0x2B], .nop .op002B), ([0x00, 0x2C], .nop .op002C),
    ([0x00, 0x2F], .nop .op002F), ([0x00, 0x30], .nop .op0030), ([0x00, 0x33], .nop .op0033),
    ([0x00, 0x34], .nop .op0034), ([0x00, 0x35], .nop .op0035), ([0x00, 0x3E], .read .accumulator),
    ([0x00, 0x3F], .read .base), ([0x00, 0x50], .wrti .ah), ([0x00, 0x51], .wrti .bh), ([0x00, 0x69], .nop .op0069),
    ([0x3F, 0xFC], .nop .op3FFC), ([0x3F, 0xFD], .kill .op3FFD), ([0x3F, 0xFE], .rest)]
    = true := by decide

theorem test_decode_system_io_2 : codes [
    ([0x3F, 0xFF], .sys), ([0x40, 0x00, 0x9B], .nop (.op4000 0x9B)), ([0x40, 0x23, 0x9B], .nop (.op4023 0x9B)),
    ([0x40, 0x24, 0x9B], .read (.zp 0x9B)), ([0x40, 0x25, 0x9B], .read (.zpX 0x9B)),
    ([0x40, 0x36, 0x9B], .wrti (.imm8 0x9B)), ([0x40, 0x37, 0x9B], .wrti (.mem (.zp 0x9B))),
    ([0x40, 0x38, 0x9B], .nop (.op4038 0x9B)), ([0x40, 0x5D, 0x9B], .nop (.op405D 0x9B)),
    ([0x7F, 0xFF, 0x9B], .nop (.op7FFF 0x9B)), ([0x80, 0x00, 0x12, 0x34], .nop (.op8000 0x1234)),
    ([0x80, 0x63, 0x12, 0x34], .read (.abs 0x1234)), ([0x80, 0x64, 0x12, 0x34], .read (.absX 0x1234)),
    ([0x80, 0x76, 0x12, 0x34], .nop (.op8076 0x1234)), ([0x80, 0x78, 0x12, 0x34], .nop (.op8078 0x1234)),
    ([0x80, 0x85, 0x12, 0x34], .wrte (.abs 0x1234)), ([0x80, 0x86, 0x12, 0x34], .kill (.op8086 0x1234)),
    ([0x80, 0x87, 0x12, 0x34], .wrte (.absX 0x1234)), ([0x80, 0x88, 0x12, 0x34], .wrti (.mem (.abs 0x1234))),
    ([0x80, 0x89, 0x12, 0x34], .wrti (.mem (.ind 0x1234))), ([0x80, 0xBF, 0x12, 0x34], .nop (.op80BF 0x1234)),
    ([0x80, 0xFE, 0x12, 0x34], .nop (.op80FE 0x1234))]
    = true := by decide

theorem test_decode_unrecognised :
    [0x005E, 0x006A, 0x3FFB, 0x405E, 0x7FFE, 0x80AA, 0x80AF, 0x80C0, 0x80FD, 0x8100, 0xFFFF].all
      (fun op => (lookupOpcode op).isNone) = true := by decide

theorem test_decodeTableWord_zero_operand : decodeTableWord 16 0x80B7 = some (.semh (.abs 0x0000)) := by decide
theorem test_decodeTableWord_operand_bits : decodeTableWord 32 0x350080B7 = some (.semh (.abs 0x3500)) := by decide
theorem test_withFetchWord : (step (State.reset.withFetchWord 16 0x0004)) = .next
    { State.reset with a := 1, pc := 0xFE02, ir := 4, dr := 0x0FFF, mem := [(0xFE01, 0x04)] } := by rfl

/-! ## Single steps (spec/95_test_vectors.md, Part 2) -/

/-- The start state of the vectors. -/
def st : State := { State.reset with pc := 0x4000 }

/-- The flags of an SR byte, N O I_ D S 1 Z C from bit 7 to bit 0 (R17). -/
def status (v : Byte) : Status :=
  ⟨v.getLsbD 7, v.getLsbD 6, v.getLsbD 5, v.getLsbD 4, v.getLsbD 3, v.getLsbD 1, v.getLsbD 0⟩

/-- One step with the instruction's bytes placed at the PC. -/
def after (bytes : List Byte) (s : State) : Option State :=
  match step (s.placeBytes s.pc bytes) with
  | .next t => some t
  | .fault _ | .refused _ => none

/-! ### Arithmetic -/

theorem test_ada_A10 :
    (after [0x80, 0x07, 0x35, 0x00]
      { st with a := 0x0100, i := 0x0002, mem := [(0x3500, 0x36), (0x3603, 0x04)] }).map
      (fun t => (t.pc, t.sr.toByte, t.a))
      = some (0x4004, 0x3C, 0x0104) := by decide

theorem test_ada_A5 :
    (after [0x40, 0x05, 0xFF] { st with a := 0x0001, mem := [(0x00FF, 0x12), (0x0100, 0x34)] }).map
      (fun t => (t.pc, t.sr.toByte, t.a))
      = some (0x4003, 0x3C, 0x1235) := by decide

theorem test_adb_A17 :
    (after [0x40, 0x07, 0xFF] { st with b := 0x3401 }).map (fun t => (t.pc, t.sr.toByte, t.b))
      = some (0x4003, 0x3F, 0x3400) := by decide

theorem test_adb_A16 :
    (after [0x00, 0x15] { st with a := 0x0001, b := 0xFFFE }).map (fun t => (t.pc, t.sr.toByte, t.b))
      = some (0x4002, 0xBC, 0xFFFF) := by decide

theorem test_sua_A20 :
    (after [0x00, 0x46] { st with a := 0x0003, b := 0x0005 }).map (fun t => (t.pc, t.sr.toByte, t.a))
      = some (0x4002, 0xBD, 0xFFFE) := by decide

theorem test_sua_A23 :
    (after [0x00, 0x48] { st with a := 0x8000, i := 0x0001 }).map (fun t => (t.pc, t.sr.toByte, t.a))
      = some (0x4002, 0x7C, 0x7FFF) := by decide

theorem test_sub_A28 :
    (after [0x40, 0x35, 0xFF] { st with b := 0x0010, i := 0x0001, mem := [(0x0101, 0x01)] }).map
      (fun t => (t.pc, t.sr.toByte, t.b))
      = some (0x4003, 0x3C, 0x000F) := by decide

theorem test_sub_A27 :
    (after [0x00, 0x47] { st with a := 0x0001, b := 0x0000 }).map (fun t => (t.pc, t.sr.toByte, t.b))
      = some (0x4002, 0xBD, 0xFFFF) := by decide

theorem test_ina_A29 :
    (after [0x00, 0x04] { st with sr := status 0x7D, a := 0xFFFF }).map (fun t => (t.pc, t.sr.toByte, t.a))
      = some (0x4002, 0x7F, 0x0000) := by decide

theorem test_inb_A30 :
    (after [0x00, 0x05] { st with b := 0x7FFF }).map (fun t => (t.pc, t.sr.toByte, t.b))
      = some (0x4002, 0xBC, 0x8000) := by decide

theorem test_ini_A31 :
    (after [0x00, 0x06] { st with i := 0x00FF }).map (fun t => (t.pc, t.sr.toByte, t.i))
      = some (0x4002, 0x3C, 0x0100) := by decide

theorem test_inj_A32 :
    (after [0x00, 0x07] { st with j := 0xFF }).map (fun t => (t.pc, t.sr.toByte, t.j))
      = some (0x4002, 0x3E, 0x00) := by decide

theorem test_dea_A34 :
    (after [0x00, 0x08] { st with a := 0x0000 }).map (fun t => (t.pc, t.sr.toByte, t.a))
      = some (0x4002, 0xBC, 0xFFFF) := by decide

theorem test_deb_A35 :
    (after [0x00, 0x09] { st with b := 0x0001 }).map (fun t => (t.pc, t.sr.toByte, t.b))
      = some (0x4002, 0x3E, 0x0000) := by decide

theorem test_dei_A36 :
    (after [0x00, 0x0A] { st with i := 0x8000 }).map (fun t => (t.pc, t.sr.toByte, t.i))
      = some (0x4002, 0x3C, 0x7FFF) := by decide

theorem test_dej_A37 :
    (after [0x00, 0x0B] { st with j := 0x00 }).map (fun t => (t.pc, t.sr.toByte, t.j))
      = some (0x4002, 0xBC, 0xFF) := by decide

/-! ### Logical -/

theorem test_ana_L1 :
    (after [0x00, 0x16] { st with sr := status 0x7D, a := 0xF0F0, b := 0xFF00 }).map
      (fun t => (t.pc, t.sr.toByte, t.a))
      = some (0x4002, 0xFD, 0xF000) := by decide

theorem test_ana_L4 :
    (after [0x40, 0x0A, 0x00] { st with a := 0xAB77 }).map (fun t => (t.pc, t.sr.toByte, t.a))
      = some (0x4003, 0x3E, 0xAB00) := by decide

theorem test_anb_L9 :
    (after [0x80, 0x11, 0x35, 0x00]
      { st with b := 0xFFFF, i := 0x0004, mem := [(0x3504, 0x12), (0x3505, 0x34)] }).map
      (fun t => (t.pc, t.sr.toByte, t.b))
      = some (0x4004, 0x3C, 0x1234) := by decide

theorem test_anb_L8 :
    (after [0x00, 0x19] { st with b := 0x8001, i := 0x8000 }).map (fun t => (t.pc, t.sr.toByte, t.b))
      = some (0x4002, 0xBC, 0x8000) := by decide

theorem test_ora_L13 :
    (after [0x80, 0x5B, 0x35, 0x00] { st with a := 0x0001, mem := [(0x3500, 0x36), (0x3600, 0x80)] }).map
      (fun t => (t.pc, t.sr.toByte, t.a))
      = some (0x4004, 0xBC, 0x8001) := by decide

theorem test_ora_L12 :
    (after [0x40, 0x1D, 0x80] { st with a := 0x0001 }).map (fun t => (t.pc, t.sr.toByte, t.a))
      = some (0x4003, 0xBC, 0x0081) := by decide

theorem test_orb_L14 :
    (after [0x00, 0x37] { st with a := 0x8000, b := 0x0001 }).map (fun t => (t.pc, t.sr.toByte, t.b))
      = some (0x4002, 0xBC, 0x8001) := by decide

theorem test_orb_L16 :
    (after [0x80, 0x62, 0x00, 0x01] { st with b := 0xFF00 }).map (fun t => (t.pc, t.sr.toByte, t.b))
      = some (0x4004, 0xBC, 0xFF01) := by decide

theorem test_xora_L18 :
    (after [0x80, 0xA5, 0xFF, 0xFF] { st with a := 0x1234 }).map (fun t => (t.pc, t.sr.toByte, t.a))
      = some (0x4004, 0xBC, 0xEDCB) := by decide

theorem test_xora_L19 :
    (after [0x40, 0x39, 0xFF] { st with a := 0x1234 }).map (fun t => (t.pc, t.sr.toByte, t.a))
      = some (0x4003, 0xBC, 0x12CB) := by decide

theorem test_xorb_L23 :
    (after [0x80, 0xA4, 0x35, 0x00]
      { st with b := 0x0000, i := 0x0001, mem := [(0x3500, 0x36), (0x3601, 0x80)] }).map
      (fun t => (t.pc, t.sr.toByte, t.b))
      = some (0x4004, 0xBC, 0x8000) := by decide

theorem test_xorb_L22 :
    (after [0x00, 0x55] { st with b := 0x8000, i := 0x0001 }).map (fun t => (t.pc, t.sr.toByte, t.b))
      = some (0x4002, 0xBC, 0x8001) := by decide

/-! ### Shift -/

theorem test_shl_S2 :
    (after [0x00, 0x40] { st with a := 0x8000 }).map (fun t => (t.pc, t.sr.toByte, t.a))
      = some (0x4002, 0x3F, 0x0000) := by decide

theorem test_shl_S4 :
    (after [0x00, 0x42] { st with sr := status 0xFD, i := 0x0000 }).map (fun t => (t.pc, t.sr.toByte))
      = some (0x4002, 0xFE) := by decide

theorem test_shr_S6 :
    (after [0x00, 0x44] { st with b := 0x8003 }).map (fun t => (t.pc, t.sr.toByte, t.b))
      = some (0x4002, 0x3D, 0x4001) := by decide

theorem test_shr_S8 :
    (after [0x00, 0x43] { st with sr := status 0x3D, a := 0x8000 }).map (fun t => (t.pc, t.sr.toByte, t.a))
      = some (0x4002, 0x3C, 0x4000) := by decide

/-! ### Load -/

theorem test_lda_LD6 :
    (after [0x80, 0x3A, 0x35, 0x00]
      { st with i := 0xFFFE, mem := [(0x3500, 0x36), (0x35FE, 0x7F), (0x35FF, 0xFF)] }).map
      (fun t => (t.pc, t.sr.toByte, t.a))
      = some (0x4004, 0x3C, 0x7FFF) := by decide

theorem test_lda_RC7 :
    (after [0x80, 0x39, 0x20, 0x00]
      { st with sr := status 0x24, a := 0x1234, imli := 0x3500, imhi := 0x3FFF,
                mem := [(0x2000, 0x36), (0x200A, 0x02), (0x200B, 0x80), (0x3601, 0x09)] }).map
      (fun t => (t.pc, t.sr.toByte, t.a))
      = some (0x4004, 0x24, 0x0009) := by decide

theorem test_ldah_LD9 :
    (after [0x80, 0x3B, 0x35, 0x00] { st with a := 0x1234, mem := [(0x3500, 0xAB), (0x3501, 0xCD)] }).map
      (fun t => (t.pc, t.sr.toByte, t.a))
      = some (0x4004, 0xBC, 0xAB34) := by decide

theorem test_ldah_LD8 :
    (after [0x40, 0x18, 0x00] { st with a := 0x1255 }).map (fun t => (t.pc, t.sr.toByte, t.a))
      = some (0x4003, 0x3E, 0x0055) := by decide

theorem test_ldal_LD11 :
    (after [0x80, 0x42, 0x35, 0x00]
      { st with a := 0x1234, i := 0x0001, mem := [(0x3500, 0x36), (0x3601, 0xFF)] }).map
      (fun t => (t.pc, t.sr.toByte, t.a))
      = some (0x4004, 0xBC, 0x12FF) := by decide

theorem test_ldal_LD10 :
    (after [0x40, 0x19, 0x05] { st with a := 0x1234 }).map (fun t => (t.pc, t.sr.toByte, t.a))
      = some (0x4003, 0x3C, 0x1205) := by decide

theorem test_ldb_LD12 :
    (after [0x80, 0x43, 0x35, 0x00] { st with mem := [(0x3500, 0x12), (0x3501, 0x34)] }).map
      (fun t => (t.pc, t.sr.toByte, t.b))
      = some (0x4004, 0x3C, 0x1234) := by decide

theorem test_ldb_LD13 :
    (after [0x80, 0x54, 0x80, 0x00] st).map (fun t => (t.pc, t.sr.toByte, t.b))
      = some (0x4004, 0xBC, 0x8000) := by decide

theorem test_ldbh_LD14 :
    (after [0x40, 0x1A, 0x01] { st with b := 0x0000 }).map (fun t => (t.pc, t.sr.toByte, t.b))
      = some (0x4003, 0x3C, 0x0100) := by decide

theorem test_ldbl_LD16 :
    (after [0x80, 0x4C, 0x35, 0x00] { st with b := 0x7700, i := 0x0003, mem := [(0x3503, 0x9A)] }).map
      (fun t => (t.pc, t.sr.toByte, t.b))
      = some (0x4004, 0xBC, 0x779A) := by decide

theorem test_ldbl_LD15 :
    (after [0x40, 0x1B, 0x00] { st with b := 0x7700 }).map (fun t => (t.pc, t.sr.toByte))
      = some (0x4003, 0x3E) := by decide

theorem test_lddr_LD24 :
    (after [0x80, 0x8C, 0x00, 0x00] st).map (fun t => (t.pc, t.sr.toByte, t.dr))
      = some (0x4004, 0x3E, 0xFFFF) := by decide

theorem test_lddr_LD25 :
    (after [0x80, 0x8C, 0x10, 0x00] { st with sr := status 0x24, a := 0x1234, mem := [(0x2006, 0x02)] }).map
      (fun t => (t.pc, t.sr.toByte, t.a, t.readCell 0x2010, t.readCell 0x2012))
      = some (0x0200, 0x2C, 0x1202, 0x40, 0x24) := by decide

theorem test_ldi_LD18 :
    (after [0x80, 0x50, 0x35, 0x00] { st with mem := [(0x3500, 0x36)] }).map (fun t => (t.pc, t.sr.toByte))
      = some (0x4004, 0x3E) := by decide

theorem test_ldi_LD17 :
    (after [0x80, 0x55, 0x35, 0x00] st).map (fun t => (t.pc, t.sr.toByte, t.i))
      = some (0x4004, 0x3C, 0x3500) := by decide

theorem test_ldj_LD20 :
    (after [0x40, 0x4A, 0x40] { st with mem := [(0x0040, 0x05)] }).map (fun t => (t.pc, t.sr.toByte, t.j))
      = some (0x4003, 0x3C, 0x05) := by decide

theorem test_ldj_LD19 :
    (after [0x40, 0x1C, 0xFE] st).map (fun t => (t.pc, t.sr.toByte, t.j))
      = some (0x4003, 0xBC, 0xFE) := by decide

theorem test_ldsr_LD35 :
    (after [0x80, 0xB0, 0x35, 0x00] { st with mem := [(0x3500, 0x36), (0x3600, 0x41), (0x3601, 0xFF)] }).map
      (fun t => (t.pc, t.sr.toByte))
      = some (0x4004, 0x45) := by decide

theorem test_ldsr_LD34 :
    (after [0x80, 0xA9, 0x35, 0x00] { st with mem := [(0x3500, 0x83), (0x3501, 0xFF)] }).map
      (fun t => (t.pc, t.sr.toByte))
      = some (0x4004, 0x87) := by decide

theorem test_ldsp_LD22 :
    (after [0x80, 0x57, 0x35, 0x00] { st with mem := [(0x3500, 0x36), (0x3600, 0x50)] }).map
      (fun t => (t.pc, t.sr.toByte, t.sp))
      = some (0x4004, 0x3C, 0x5000) := by decide

theorem test_ldsp_LD21 :
    (after [0x80, 0x58, 0x40, 0x00] st).map (fun t => (t.pc, t.sr.toByte, t.sp))
      = some (0x4004, 0x3C, 0x4000) := by decide

theorem test_lemh_LD28 :
    (after [0x80, 0xB3, 0x00, 0xFF] st).map (fun t => (t.pc, t.sr.toByte, t.emhi))
      = some (0x4004, 0x3C, 0x00FF) := by decide

theorem test_lemh_PV19 :
    (after [0x40, 0x54, 0x12] { st with sr := status 0x24, a := 0xAA55, mem := [(0x2006, 0x02)] }).map
      (fun t => (t.pc, t.sr.toByte, t.a, t.readCell 0x2010, t.readCell 0x2012))
      = some (0x0200, 0x2C, 0xAA02, 0x40, 0x24) := by decide

theorem test_leml_LD29 :
    (after [0x80, 0xB5, 0x35, 0x00] { st with emli := 0x1111, mem := [(0x3500, 0x36)] }).map
      (fun t => (t.pc, t.sr.toByte, t.emli))
      = some (0x4004, 0x3E, 0x0000) := by decide

theorem test_leml_LD30 :
    (after [0x80, 0xB6, 0x00, 0x00] { st with sr := status 0x24, emli := 0x1111, mem := [(0x2006, 0x02)] }).map
      (fun t => (t.pc, t.sr.toByte, t.a, t.readCell 0x2010, t.readCell 0x2012))
      = some (0x0200, 0x2C, 0x0002, 0x40, 0x24) := by decide

theorem test_limh_LD26 :
    (after [0x80, 0x8F, 0xFD, 0xFF] { st with imhi := 0x1111 }).map (fun t => (t.pc, t.sr.toByte, t.imhi))
      = some (0x4004, 0xBC, 0xFDFF) := by decide

theorem test_limh_PV15 :
    (after [0x40, 0x4B, 0x12] { st with sr := status 0x24, a := 0xAA55, mem := [(0x2006, 0x02)] }).map
      (fun t => (t.pc, t.sr.toByte, t.a, t.readCell 0x2010, t.readCell 0x2012))
      = some (0x0200, 0x2C, 0xAA02, 0x40, 0x24) := by decide

theorem test_liml_LD27 :
    (after [0x40, 0x4E, 0x10] { st with i := 0x0002, mem := [(0x0012, 0x35)] }).map
      (fun t => (t.pc, t.sr.toByte, t.imli))
      = some (0x4003, 0x3C, 0x3500) := by decide

theorem test_liml_PV17 :
    (after [0x40, 0x4D, 0x12] { st with sr := status 0x24, a := 0xAA55, mem := [(0x2006, 0x02)] }).map
      (fun t => (t.pc, t.sr.toByte, t.a, t.readCell 0x2010, t.readCell 0x2012))
      = some (0x0200, 0x2C, 0xAA02, 0x40, 0x24) := by decide

/-! ### Transfer -/

theorem test_tab_T1 :
    (after [0x00, 0x4A] { st with a := 0x8000, b := 0x0001 }).map (fun t => (t.pc, t.sr.toByte, t.b))
      = some (0x4002, 0xBC, 0x8000) := by decide

theorem test_tabh_T2 :
    (after [0x00, 0x2E] { st with a := 0x00FF, b := 0x1234 }).map (fun t => (t.pc, t.sr.toByte, t.b))
      = some (0x4002, 0x3E, 0x0034) := by decide

theorem test_tabl_T3 :
    (after [0x00, 0x5A] { st with a := 0x00FF, b := 0x1234 }).map (fun t => (t.pc, t.sr.toByte, t.b))
      = some (0x4002, 0xBC, 0x12FF) := by decide

theorem test_tadr_T4 :
    (after [0x00, 0x5B] { st with a := 0x0100 }).map (fun t => (t.pc, t.sr.toByte, t.dr))
      = some (0x4002, 0x3C, 0x00FF) := by decide

theorem test_tadr_T5 :
    (after [0x00, 0x5B] { st with sr := status 0x24, a := 0x0100, mem := [(0x2006, 0x02)] }).map
      (fun t => (t.pc, t.sr.toByte, t.a, t.readCell 0x2010, t.readCell 0x2012))
      = some (0x0200, 0x2C, 0x0102, 0x40, 0x24) := by decide

theorem test_taemh_T6 :
    (after [0x00, 0x5F] { st with a := 0x00FF }).map (fun t => (t.pc, t.sr.toByte, t.emhi))
      = some (0x4002, 0x3C, 0x00FF) := by decide

theorem test_taemh_PV9 :
    (after [0x00, 0x5F] { st with sr := status 0x24, a := 0xAA55, mem := [(0x2006, 0x02)] }).map
      (fun t => (t.pc, t.sr.toByte, t.a, t.readCell 0x2010, t.readCell 0x2012))
      = some (0x0200, 0x2C, 0xAA02, 0x40, 0x24) := by decide

theorem test_taeml_T7 :
    (after [0x00, 0x60] { st with a := 0x0000, emli := 0x0101 }).map (fun t => (t.pc, t.sr.toByte, t.emli))
      = some (0x4002, 0x3E, 0x0000) := by decide

theorem test_taeml_PV10 :
    (after [0x00, 0x60] { st with sr := status 0x24, a := 0xAA55, mem := [(0x2006, 0x02)] }).map
      (fun t => (t.pc, t.sr.toByte, t.a, t.readCell 0x2010, t.readCell 0x2012))
      = some (0x0200, 0x2C, 0xAA02, 0x40, 0x24) := by decide

theorem test_tahj_T8 :
    (after [0x00, 0x31] { st with a := 0xFE00 }).map (fun t => (t.pc, t.sr.toByte, t.j))
      = some (0x4002, 0xBC, 0xFE) := by decide

theorem test_tai_T9 :
    (after [0x00, 0x4B] { st with a := 0x3500 }).map (fun t => (t.pc, t.sr.toByte, t.i))
      = some (0x4002, 0x3C, 0x3500) := by decide

theorem test_taimh_T10 :
    (after [0x00, 0x5C] { st with a := 0xFDFF }).map (fun t => (t.pc, t.sr.toByte, t.imhi))
      = some (0x4002, 0xBC, 0xFDFF) := by decide

theorem test_taimh_PV7 :
    (after [0x00, 0x5C] { st with sr := status 0x24, a := 0xAA55, mem := [(0x2006, 0x02)] }).map
      (fun t => (t.pc, t.sr.toByte, t.a, t.readCell 0x2010, t.readCell 0x2012))
      = some (0x0200, 0x2C, 0xAA02, 0x40, 0x24) := by decide

theorem test_taiml_T11 :
    (after [0x00, 0x5D] { st with a := 0x3500 }).map (fun t => (t.pc, t.sr.toByte, t.imli))
      = some (0x4002, 0x3C, 0x3500) := by decide

theorem test_taiml_PV8 :
    (after [0x00, 0x5D] { st with sr := status 0x24, a := 0xAA55, mem := [(0x2006, 0x02)] }).map
      (fun t => (t.pc, t.sr.toByte, t.a, t.readCell 0x2010, t.readCell 0x2012))
      = some (0x0200, 0x2C, 0xAA02, 0x40, 0x24) := by decide

theorem test_tba_T12 :
    (after [0x00, 0x4C] { st with a := 0x1234, b := 0x0000 }).map (fun t => (t.pc, t.sr.toByte, t.a))
      = some (0x4002, 0x3E, 0x0000) := by decide

theorem test_tbah_T13 :
    (after [0x00, 0x2D] { st with a := 0x0055, b := 0x8001 }).map (fun t => (t.pc, t.sr.toByte, t.a))
      = some (0x4002, 0xBC, 0x8055) := by decide

theorem test_tbal_T14 :
    (after [0x00, 0x59] { st with a := 0x5500, b := 0x8001 }).map (fun t => (t.pc, t.sr.toByte, t.a))
      = some (0x4002, 0x3C, 0x5501) := by decide

theorem test_tbhj_T15 :
    (after [0x00, 0x32] { st with b := 0x0500 }).map (fun t => (t.pc, t.sr.toByte, t.j))
      = some (0x4002, 0x3C, 0x05) := by decide

theorem test_tbi_T16 :
    (after [0x00, 0x4D] { st with b := 0xFFFF }).map (fun t => (t.pc, t.sr.toByte, t.i))
      = some (0x4002, 0xBC, 0xFFFF) := by decide

theorem test_tisp_T17 :
    (after [0x00, 0x4E] { st with sr := status 0x7D, i := 0x4000 }).map (fun t => (t.pc, t.sr.toByte, t.sp))
      = some (0x4002, 0x7D, 0x4000) := by decide

theorem test_tspb_T18 :
    (after [0x00, 0x4F] { st with sp := 0x4003 }).map (fun t => (t.pc, t.sr.toByte, t.b))
      = some (0x4002, 0x3C, 0x4003) := by decide

/-! ### Store -/

theorem test_sta_ST7 :
    (after [0x80, 0x68, 0x35, 0x00] { st with a := 0xBEEF, i := 0x0002, mem := [(0x3500, 0x36)] }).map
      (fun t => (t.pc, t.sr.toByte, t.readCell 0x3602, t.readCell 0x3603))
      = some (0x4004, 0x3C, 0xBE, 0xEF) := by decide

theorem test_sta_RC6 :
    (after [0x80, 0x65, 0x37, 0xFF]
      { st with sr := status 0x24, a := 0xABCD, imli := 0x3500, imhi := 0x37FF,
                mem := [(0x200A, 0x02), (0x200B, 0x80)] }).map
      (fun t => (t.pc, t.sr.toByte, t.readCell 0x37FF, t.readCell 0x3800))
      = some (0x4004, 0x24, 0xAB, 0xCD) := by decide

theorem test_stah_ST8 :
    (after [0x40, 0x28, 0x10] { st with a := 0xAB12 }).map (fun t => (t.pc, t.sr.toByte, t.readCell 0x0010))
      = some (0x4003, 0x3C, 0xAB) := by decide

theorem test_stb_ST9 :
    (after [0x80, 0x6F, 0x35, 0x00] { st with b := 0xBEEF, mem := [(0x3500, 0x40), (0x3501, 0x80)] }).map
      (fun t => (t.pc, t.sr.toByte, t.readCell 0x4080, t.readCell 0x4081))
      = some (0x4004, 0x3C, 0xBE, 0xEF) := by decide

theorem test_stbh_ST10 :
    (after [0x80, 0x72, 0x36, 0x00] { st with b := 0x7F00, i := 0x0002 }).map
      (fun t => (t.pc, t.sr.toByte, t.readCell 0x3602))
      = some (0x4004, 0x3C, 0x7F) := by decide

theorem test_sti_ST12 :
    (after [0x80, 0x77, 0x35, 0x00] { st with i := 0xCAFE, mem := [(0x3500, 0x36)] }).map
      (fun t => (t.pc, t.sr.toByte, t.readCell 0x3600, t.readCell 0x3601))
      = some (0x4004, 0x3C, 0xCA, 0xFE) := by decide

theorem test_sti_ST11 :
    (after [0x40, 0x2E, 0x20] { st with i := 0x3500, a := 0x1111 }).map
      (fun t => (t.pc, t.sr.toByte, t.readCell 0x0020, t.readCell 0x0021))
      = some (0x4003, 0x3C, 0x35, 0x00) := by decide

theorem test_stj_ST13 :
    (after [0x80, 0x79, 0x35, 0x00] { st with j := 0xFE }).map (fun t => (t.pc, t.sr.toByte, t.readCell 0x3500))
      = some (0x4004, 0x3C, 0xFE) := by decide

theorem test_stj_ST14 :
    (after [0x40, 0x2F, 0x30] { st with j := 0x7F }).map (fun t => (t.pc, t.sr.toByte, t.readCell 0x0030))
      = some (0x4003, 0x3C, 0x7F) := by decide

theorem test_stpc_ST15 :
    (after [0x80, 0xA7, 0x35, 0x00] st).map (fun t => (t.pc, t.sr.toByte, t.readCell 0x3500, t.readCell 0x3501))
      = some (0x4004, 0x3C, 0x40, 0x00) := by decide

theorem test_stsr_ST16 :
    (after [0x80, 0xA8, 0x35, 0x00] { st with sr := status 0xA5 }).map
      (fun t => (t.pc, t.sr.toByte, t.readCell 0x3500))
      = some (0x4004, 0xA5, 0xA5) := by decide

theorem test_simh_ST21 :
    (after [0x80, 0x93, 0x36, 0x00] { st with sr := status 0x24, imli := 0x3500, imhi := 0x3FFF }).map
      (fun t => (t.pc, t.sr.toByte, t.readCell 0x3600, t.readCell 0x3601))
      = some (0x4004, 0x24, 0x3F, 0xFF) := by decide

theorem test_siml_ST18 :
    (after [0x40, 0x51, 0x00] { st with imli := 0x3500 }).map
      (fun t => (t.pc, t.sr.toByte, t.readCell 0x0000, t.readCell 0x0001))
      = some (0x4003, 0x3C, 0x35, 0x00) := by decide

theorem test_semh_ST19 :
    (after [0x80, 0xB7, 0x35, 0x00] { st with emhi := 0x00FF }).map
      (fun t => (t.pc, t.sr.toByte, t.readCell 0x3500, t.readCell 0x3501))
      = some (0x4004, 0x3C, 0x00, 0xFF) := by decide

theorem test_seml_ST20 :
    (after [0x80, 0xBC, 0x35, 0x00] { st with i := 0x0010, emli := 0x0001 }).map
      (fun t => (t.pc, t.sr.toByte, t.readCell 0x3510, t.readCell 0x3511))
      = some (0x4004, 0x3C, 0x00, 0x01) := by decide

/-! ### Stack -/

theorem test_psh_K8 :
    (after [0x40, 0x02, 0x10]
      { st with sp := 0x5000, i := 0x0002,
                mem := [(0x0010, 0x11), (0x0011, 0x11), (0x0012, 0x22), (0x0013, 0x22)] }).map
      (fun t => (t.pc, t.sr.toByte, t.sp, t.readCell 0x5000, t.readCell 0x5001))
      = some (0x4003, 0x3C, 0x5002, 0x22, 0x22) := by decide

theorem test_psh_K9 :
    (after [0x40, 0x03, 0x10]
      { st with sp := 0x5000, i := 0x0002,
                mem := [(0x0010, 0x11), (0x0011, 0x11), (0x0012, 0x22), (0x0013, 0x22)] }).map
      (fun t => (t.pc, t.sr.toByte, t.sp, t.readCell 0x5000, t.readCell 0x5001))
      = some (0x4003, 0x3C, 0x5002, 0x11, 0x11) := by decide

theorem test_pop_K16 :
    (after [0x00, 0x67] { st with a := 0x1234, sp := 0x5001 }).map (fun t => (t.pc, t.sr.toByte, t.a, t.sp))
      = some (0x4002, 0x3E, 0x0034, 0x5000) := by decide

theorem test_pop_K14 :
    (after [0x00, 0x65] { st with sp := 0x5002, mem := [(0x5000, 0x80)] }).map
      (fun t => (t.pc, t.sr.toByte, t.a, t.sp))
      = some (0x4002, 0xBC, 0x8000, 0x5000) := by decide

theorem test_ret_K19 :
    (after [0x80, 0xFF]
      { st with sr := status 0x24, sp := 0x5003, mem := [(0x5000, 0xFF), (0x5001, 0x35), (0x5002, 0x07)] }).map
      (fun t => (t.pc, t.sr.toByte, t.sp))
      = some (0x3507, 0xF7, 0x5000) := by decide

/-! ### FlagCompare -/

theorem test_aret_F1 :
    (after [0x00, 0x02] { st with a := 0x80FF }).map (fun t => (t.pc, t.sr.toByte))
      = some (0x4002, 0x3E) := by decide

theorem test_clc_F3 :
    (after [0x00, 0x10] { st with sr := status 0x3D }).map (fun t => (t.pc, t.sr.toByte))
      = some (0x4002, 0x3C) := by decide

theorem test_cld_F5 :
    (after [0x00, 0x12] st).map (fun t => (t.pc, t.sr.toByte))
      = some (0x4002, 0x2C) := by decide

theorem test_cld_PV4 :
    (after [0x00, 0x12] { st with sr := status 0x24, a := 0xAA55, mem := [(0x2006, 0x02)] }).map
      (fun t => (t.pc, t.sr.toByte, t.a, t.readCell 0x2010, t.readCell 0x2012))
      = some (0x0200, 0x2C, 0xAA02, 0x40, 0x24) := by decide

theorem test_cli_F6 :
    (after [0x00, 0x13] st).map (fun t => (t.pc, t.sr.toByte))
      = some (0x4002, 0x1C) := by decide

theorem test_cli_PV5 :
    (after [0x00, 0x13] { st with sr := status 0x24, a := 0xAA55, mem := [(0x2006, 0x02)] }).map
      (fun t => (t.pc, t.sr.toByte, t.a, t.readCell 0x2010, t.readCell 0x2012))
      = some (0x0200, 0x2C, 0xAA02, 0x40, 0x24) := by decide

theorem test_clo_F4 :
    (after [0x00, 0x11] { st with sr := status 0x7C }).map (fun t => (t.pc, t.sr.toByte))
      = some (0x4002, 0x3C) := by decide

theorem test_cls_F7 :
    (after [0x00, 0x61] st).map (fun t => (t.pc, t.sr.toByte))
      = some (0x4002, 0x34) := by decide

theorem test_cls_F12 :
    (after [0x00, 0x61] { st with sr := status 0x24, a := 0x1234, mem := [(0x2006, 0x02)] }).map
      (fun t => (t.pc, t.sr.toByte, t.a, t.readCell 0x2010, t.readCell 0x2012))
      = some (0x0200, 0x2C, 0x1202, 0x40, 0x24) := by decide

theorem test_sed_F8 :
    (after [0x00, 0x0F] { st with sr := status 0x2C }).map (fun t => (t.pc, t.sr.toByte))
      = some (0x4002, 0x3C) := by decide

theorem test_sed_PV3 :
    (after [0x00, 0x0F] { st with sr := status 0x24, a := 0xAA55, mem := [(0x2006, 0x02)] }).map
      (fun t => (t.pc, t.sr.toByte, t.a, t.readCell 0x2010, t.readCell 0x2012))
      = some (0x0200, 0x2C, 0xAA02, 0x40, 0x24) := by decide

theorem test_sei_F9 :
    (after [0x00, 0x0E] { st with sr := status 0x1C }).map (fun t => (t.pc, t.sr.toByte))
      = some (0x4002, 0x3C) := by decide

theorem test_sei_PV2 :
    (after [0x00, 0x0E] { st with sr := status 0x24, a := 0xAA55, mem := [(0x2006, 0x02)] }).map
      (fun t => (t.pc, t.sr.toByte, t.a, t.readCell 0x2010, t.readCell 0x2012))
      = some (0x0200, 0x2C, 0xAA02, 0x40, 0x24) := by decide

theorem test_ses_F10 :
    (after [0x00, 0x62] st).map (fun t => (t.pc, t.sr.toByte))
      = some (0x4002, 0x3C) := by decide

theorem test_ses_F11 :
    (after [0x00, 0x62] { st with sr := status 0x24, a := 0x1234, mem := [(0x2006, 0x02)] }).map
      (fun t => (t.pc, t.sr.toByte, t.a, t.readCell 0x2010, t.readCell 0x2012))
      = some (0x0200, 0x2C, 0x1202, 0x40, 0x24) := by decide

theorem test_cmah_F27 :
    (after [0x00, 0x1A] { st with a := 0x80FF, b := 0x7F00 }).map (fun t => (t.pc, t.sr.toByte))
      = some (0x4002, 0x3D) := by decide

theorem test_cmah_F28 :
    (after [0x40, 0x3F, 0x41] { st with a := 0x41FF }).map (fun t => (t.pc, t.sr.toByte))
      = some (0x4003, 0x3F) := by decide

theorem test_cmbh_F30 :
    (after [0x00, 0x1B] { st with a := 0x0100, b := 0x0000 }).map (fun t => (t.pc, t.sr.toByte))
      = some (0x4002, 0xBC) := by decide

theorem test_cmbh_F31 :
    (after [0x40, 0x42, 0xFF] { st with b := 0xFF00 }).map (fun t => (t.pc, t.sr.toByte))
      = some (0x4003, 0x3F) := by decide

theorem test_cmpa_F13 :
    (after [0x00, 0x1C] { st with a := 0x0005, b := 0x0003 }).map (fun t => (t.pc, t.sr.toByte))
      = some (0x4002, 0x3D) := by decide

theorem test_cmpa_F16 :
    (after [0x80, 0x24, 0x00, 0x01] { st with a := 0x8000 }).map (fun t => (t.pc, t.sr.toByte))
      = some (0x4004, 0x3D) := by decide

theorem test_cmpb_F21 :
    (after [0x00, 0x1D] { st with a := 0x0002, b := 0x0001 }).map (fun t => (t.pc, t.sr.toByte))
      = some (0x4002, 0xBC) := by decide

theorem test_cmpb_F22 :
    (after [0x00, 0x1F] { st with b := 0x0002, i := 0x0001 }).map (fun t => (t.pc, t.sr.toByte))
      = some (0x4002, 0x3D) := by decide

theorem test_cmpi_F24 :
    (after [0x00, 0x20] { st with i := 0x0004, a := 0x0004 }).map (fun t => (t.pc, t.sr.toByte))
      = some (0x4002, 0x3F) := by decide

theorem test_cmpi_F26 :
    (after [0x80, 0x27, 0x35, 0x00] { st with i := 0x0100, mem := [(0x3501, 0xFF)] }).map
      (fun t => (t.pc, t.sr.toByte))
      = some (0x4004, 0x3D) := by decide

/-! ### Jump -/

theorem test_jcc_J18 :
    (after [0x80, 0x29, 0x50, 0x00] { st with sr := status 0x3D }).map (fun t => (t.pc, t.sr.toByte))
      = some (0x4004, 0x3D) := by decide

theorem test_jcc_J16 :
    (after [0x40, 0x10, 0x05] { st with sr := status 0x3D }).map (fun t => (t.pc, t.sr.toByte))
      = some (0x4003, 0x3D) := by decide

theorem test_jcs_J21 :
    (after [0x00, 0x25] { st with j := 0x10 }).map (fun t => (t.pc, t.sr.toByte))
      = some (0x4002, 0x3C) := by decide

theorem test_jcs_J19 :
    (after [0x40, 0x14, 0xFE] { st with sr := status 0x3D }).map (fun t => (t.pc, t.sr.toByte))
      = some (0x3FFE, 0x3D) := by decide

theorem test_jeq_J22 :
    (after [0x40, 0x16, 0x10] { st with sr := status 0x3E }).map (fun t => (t.pc, t.sr.toByte))
      = some (0x4010, 0x3E) := by decide

theorem test_jeq_J23 :
    (after [0x80, 0x2F, 0x50, 0x00] st).map (fun t => (t.pc, t.sr.toByte))
      = some (0x4004, 0x3C) := by decide

theorem test_jmp_J13 :
    (after [0x80, 0x32, 0xFF, 0x00] { st with mem := [(0xFF00, 0x35)] }).map (fun t => (t.pc, t.sr.toByte))
      = some (0x3500, 0x3C) := by decide

theorem test_jmp_J3 :
    (after [0x00, 0x58] { st with i := 0x0001 }).map (fun t => (t.pc, t.sr.toByte))
      = some (0x0001, 0x3C) := by decide

theorem test_jnc_J28 :
    (after [0x80, 0x2C, 0x50, 0x00] { st with sr := status 0x3D }).map (fun t => (t.pc, t.sr.toByte))
      = some (0x5000, 0x3D) := by decide

theorem test_jnc_J26 :
    (after [0x40, 0x13, 0x10] st).map (fun t => (t.pc, t.sr.toByte))
      = some (0x4010, 0x3C) := by decide

theorem test_jne_J25 :
    (after [0x00, 0x23] { st with sr := status 0x3E, j := 0xFA }).map (fun t => (t.pc, t.sr.toByte))
      = some (0x4002, 0x3E) := by decide

theorem test_jne_J24 :
    (after [0x40, 0x12, 0xFA] st).map (fun t => (t.pc, t.sr.toByte))
      = some (0x3FFA, 0x3C) := by decide

theorem test_jns_J29 :
    (after [0x00, 0x28] { st with sr := status 0xBC, j := 0x08 }).map (fun t => (t.pc, t.sr.toByte))
      = some (0x4008, 0xBC) := by decide

theorem test_jns_J31 :
    (after [0x80, 0x30, 0x50, 0x00] { st with sr := status 0xBC }).map (fun t => (t.pc, t.sr.toByte))
      = some (0x5000, 0xBC) := by decide

theorem test_joc_J33 :
    (after [0x80, 0x2A, 0x50, 0x00] { st with sr := status 0x7C }).map (fun t => (t.pc, t.sr.toByte))
      = some (0x4004, 0x7C) := by decide

theorem test_joc_J32 :
    (after [0x40, 0x11, 0x10] st).map (fun t => (t.pc, t.sr.toByte))
      = some (0x4010, 0x3C) := by decide

theorem test_jos_J34 :
    (after [0x40, 0x15, 0x10] { st with sr := status 0x7C }).map (fun t => (t.pc, t.sr.toByte))
      = some (0x4010, 0x7C) := by decide

theorem test_jos_J35 :
    (after [0x00, 0x26] { st with j := 0x10 }).map (fun t => (t.pc, t.sr.toByte))
      = some (0x4002, 0x3C) := by decide

/-! ### SystemIo -/

theorem test_cpuid_Y1 :
    (after [0x00, 0x03] { st with sr := status 0xBC, a := 0xFFFF }).map (fun t => (t.pc, t.sr.toByte, t.a))
      = some (0x4002, 0xBC, 0x0001) := by decide

theorem test_kill_Y8 :
    (after [0x00, 0x01] st).map (fun t => (t.pc, t.sr.toByte, t.run))
      = some (0x4000, 0x3C, .stopped) := by decide

theorem test_kill_Y11 :
    (after [0x00, 0x01] { st with sr := status 0x24, a := 0x1234, mem := [(0x2006, 0x02)] }).map
      (fun t => (t.pc, t.sr.toByte, t.a, t.readCell 0x2010, t.readCell 0x2012))
      = some (0x0200, 0x2C, 0x1202, 0x40, 0x24) := by decide

theorem test_msb_Y2 :
    (after [0x00, 0x0C] { st with a := 0x8000 }).map (fun t => (t.pc, t.sr.toByte))
      = some (0x4002, 0x3E) := by decide

theorem test_msb_Y4 :
    (after [0x00, 0x0D] { st with a := 0x0000, b := 0xFFFF }).map (fun t => (t.pc, t.sr.toByte))
      = some (0x4002, 0x3E) := by decide

theorem test_nop_Y6 :
    (after [0x7F, 0xFF, 0xAA] st).map (fun t => (t.pc, t.sr.toByte))
      = some (0x4003, 0x3C) := by decide

theorem test_nop_Y7 :
    (after [0x80, 0x76, 0x12, 0x34] { st with sr := status 0x24, imli := 0x3500, imhi := 0x5000 }).map
      (fun t => (t.pc, t.sr.toByte))
      = some (0x4004, 0x24) := by decide

theorem test_rest_Y12 :
    (after [0x3F, 0xFE] { st with sr := status 0x0D, a := 0x1234 }).map (fun t => (t.pc, t.sr.toByte))
      = some (0xFE00, 0x3C) := by decide

theorem test_rest_Y13 :
    (after [0x3F, 0xFE] { st with sr := status 0x24, a := 0x1234, mem := [(0x2006, 0x02)] }).map
      (fun t => (t.pc, t.sr.toByte, t.a, t.readCell 0x2010, t.readCell 0x2012))
      = some (0x0200, 0x2C, 0x1202, 0x40, 0x24) := by decide

theorem test_sys_Y15 :
    (after [0x3F, 0xFF] { st with sr := status 0xFF, a := 0xAABB, b := 0xCCDD, mem := [(0x2008, 0x01)] }).map
      (fun t => (t.pc, t.sr.toByte, t.readCell 0x2010, t.readCell 0x2012))
      = some (0x0100, 0x2C, 0x40, 0xFF) := by decide

theorem test_read_Y18 :
    (after [0x40, 0x24, 0x10] { st with a := 0x1234, ioAnswers := [0x00] }).map
      (fun t => (t.pc, t.sr.toByte, t.a, t.ioTrace))
      = some (0x4003, 0x3E, 0x0034, [.read 0x0010 0x00]) := by decide

theorem test_read_Y21 :
    (after [0x80, 0x64, 0xFF, 0x00] { st with a := 0x1234, i := 0x0100, ioAnswers := [0x99] }).map
      (fun t => (t.pc, t.sr.toByte, t.a, t.ioTrace))
      = some (0x4004, 0xBC, 0x9934, [.read 0x0000 0x99]) := by decide

theorem test_wrte_Y24 :
    (after [0x80, 0x85, 0x01, 0x00] { st with a := 0x4142 }).map (fun t => (t.pc, t.sr.toByte, t.ioTrace))
      = some (0x4004, 0x3C, [.write 0x0100 0x41]) := by decide

theorem test_wrte_Y25 :
    (after [0x80, 0x87, 0x01, 0x00] { st with a := 0x4142, i := 0x0005 }).map
      (fun t => (t.pc, t.sr.toByte, t.ioTrace))
      = some (0x4004, 0x3C, [.write 0x0105 0x41]) := by decide

theorem test_wrti_Y30 :
    (after [0x40, 0x37, 0x10] { st with i := 0x0100, mem := [(0x0010, 0x55)] }).map
      (fun t => (t.pc, t.sr.toByte, t.ioTrace))
      = some (0x4003, 0x3C, [.write 0x0100 0x55]) := by decide

theorem test_wrti_Y31 :
    (after [0x80, 0x88, 0x35, 0x00] { st with i := 0x0100, mem := [(0x3500, 0x66), (0x3501, 0x77)] }).map
      (fun t => (t.pc, t.sr.toByte, t.ioTrace))
      = some (0x4004, 0x3C, [.write 0x0100 0x66]) := by decide

/-! ### Interrupts and RESET at a boundary (spec/96_test_programs.md, Part 3) -/

/-- One step with nothing placed. -/
def next (s : State) : Option State :=
  match step s with
  | .next t => some t
  | .fault _ | .refused _ => none

theorem test_drInr_TR1 :
    (next { st with pc := 0x4004, dr := 0, mem := [(0x2002, 0x03)] }).map
      (fun t => (t.pc, t.sr.toByte, t.dr, t.readCell 0x2010, t.readCell 0x2011, t.readCell 0x2012))
      = some (0x0300, 0x2C, 0, 0x40, 0x04, 0x3C) := by decide

/-- R305: `LDDR #1` that counts twice passes 0 with D = 1; the hit is remembered and taken at the boundary. -/
theorem test_drInr_passed_zero :
    ((after [0x80, 0x8C, 0x00, 0x01] { st with drDraws := [1], mem := [(0x2002, 0x03)] }).map fun t =>
      (t.dr, t.drHit, (next t).map fun u => (u.pc, u.sr.toByte, u.drHit)))
      = some (0xFFFF, true, some (0x0300, 0x2C, false)) := by decide

/-- R306 (a): with D = 0 nothing is remembered; `DR_TICKS` is here 3 for opcode 808C. -/
theorem test_drInr_masked_zero :
    (after [0x80, 0x8C, 0x00, 0x01]
      { st with sr := status 0x2C, cfg := { Config.standard with extraTicks := [(0x808C, 2)] } }).map
      (fun t => (t.dr, t.drHit)) = some (0xFFFE, false) := by decide

theorem test_eirq_TR5 :
    (next { st with
      pc := 0x4002, sr := status 0x2D, a := 0x1235, b := 0x5678, mem := [(0x2004, 0x04)]
      inputs := [⟨false, none, some (0x0042, 0x99)⟩] }).map
      (fun t => (t.pc, t.sr.toByte, t.a, t.b, t.readCell 0x2014, t.readCell 0x2016))
      = some (0x0400, 0x2C, 0x9935, 0x0042, 0x35, 0x78) := by decide

theorem test_priority_TR7 :
    (next { st with
      pc := 0x4002, dr := 0, mem := [(0x2002, 0x03), (0x2004, 0x04)]
      inputs := [⟨false, none, some (0x0042, 0x99)⟩] }).map (fun t => (t.pc, t.sr.toByte, t.readCell 0x2012))
      = some (0x0300, 0x2C, 0x3C) := by decide

theorem test_reset_TR8 :
    (next { st with pc := 0x4004, sr := status 0x8C, a := 0xBEEF, run := .stopped
                    inputs := [⟨true, none, none⟩] }).map (fun t => (t.pc, t.sr.toByte, t.a, t.run))
      = some (0xFE00, 0x3C, 0xBEEF, .running) := by decide

/-! ## Witnesses: a concrete state and operands for the hypotheses of each statement, one conjunct for each clause -/

open Sys2Proof.Claims

/-- User mode with narrow bounds. -/
def us : State :=
  { st with sr := status 0x24, imli := 0x3500, imhi := 0x4FFF, emli := 0x0100, emhi := 0x01FF, sp := 0x3800 }

/-- System mode where a store to the ROM stops the model. -/
def guarded : State := { st with cfg := { Config.standard with romWrite := .fault } }

theorem witness_AdditionResult :
    (addWord (.ada (.mem (.abs 0x4FFF))) = some (.a, .mem (.abs 0x4FFF)) ∧ (Source.mem (.abs 0x4FFF)).ok us) ∧
    (addWord (.ada (.mem (.abs 0x5000))) = some (.a, .mem (.abs 0x5000)) ∧ ¬ (Source.mem (.abs 0x5000)).ok us) ∧
    addByte (.adb (.imm8 0xFF)) = some (.bl, 0xFF) :=
  ⟨⟨rfl, (by decide : us.internalOk 0x4FFF)⟩, ⟨rfl, (by decide : ¬ us.internalOk 0x5000)⟩, rfl⟩

theorem witness_SubtractionResult :
    (subWord (.sub (.mem (.abs 0x3500))) = some (.b, .mem (.abs 0x3500)) ∧ (Source.mem (.abs 0x3500)).ok us) ∧
    (subWord (.sub (.mem (.abs 0x34FF))) = some (.b, .mem (.abs 0x34FF)) ∧ ¬ (Source.mem (.abs 0x34FF)).ok us) ∧
    subByte (.sua (.imm8 0x00)) = some (.al, 0x00) :=
  ⟨⟨rfl, (by decide : us.internalOk 0x3500)⟩, ⟨rfl, (by decide : ¬ us.internalOk 0x34FF)⟩, rfl⟩

theorem witness_IncrementDecrement : countWord .dei = some (.i, 0xFFFF) ∧ countByte .inj = some 1 := by decide

theorem witness_LogicResult :
    (logicWord (.xora (.mem (.abs 0x4FFF))) = some (.xor, .a, .mem (.abs 0x4FFF)) ∧
      (Source.mem (.abs 0x4FFF)).ok us) ∧
    (logicWord (.orb (.mem (.abs 0x5000))) = some (.or, .b, .mem (.abs 0x5000)) ∧
      ¬ (Source.mem (.abs 0x5000)).ok us) ∧
    logicByte (.anb (.imm8 0xFF)) = some (.and, .bl, 0xFF) :=
  ⟨⟨rfl, (by decide : us.internalOk 0x4FFF)⟩, ⟨rfl, (by decide : ¬ us.internalOk 0x5000)⟩, rfl⟩

theorem witness_LoadWords :
    (loadsWord (.limh (.imm 0xFFFF)) = some (.imhi, .imm 0xFFFF) ∧
      (starred (.limh (.imm 0xFFFF)) = true → st.sr.s = true) ∧ (Source.imm 0xFFFF).ok st) ∧
    (loadsWord (.ldi (.mem (.abs 0x5000))) = some (.i, .mem (.abs 0x5000)) ∧
      starred (.ldi (.mem (.abs 0x5000))) = false ∧ ¬ (Source.mem (.abs 0x5000)).ok us) :=
  ⟨⟨rfl, by decide, trivial⟩, rfl, rfl, (by decide : ¬ us.internalOk 0x5000)⟩

theorem witness_LoadBytes :
    (loadsByte (.ldah (.mem (.abs 0x3500))) = some (.ah, .mem (.abs 0x3500)) ∧ (ByteSource.mem (.abs 0x3500)).ok us) ∧
    (loadsByte (.ldj (.mem (.zp 0xFF))) = some (.j, .mem (.zp 0xFF)) ∧ ¬ (ByteSource.mem (.zp 0xFF)).ok us) :=
  ⟨⟨rfl, (by decide : us.internalOk 0x3500)⟩, rfl, (by decide : ¬ us.internalOk 0x00FF)⟩

theorem witness_LoadStatus :
    (src8 AbsIndMode.toMem (.mem (.abs 0x4FFF))).ok us ∧ ¬ (src8 AbsIndMode.toMem (.mem (.abs 0x5000))).ok us :=
  ⟨(by decide : us.internalOk 0x4FFF), (by decide : ¬ us.internalOk 0x5000)⟩

theorem witness_TransferResult :
    (movesWord .tadr = some (.dr, .a) ∧ (starred .tadr = true → st.sr.s = true)) ∧
    movesByte .tbhj = some (.j, .bh) ∧
    (movesWord .taimh = some (.imhi, .a) ∧ starred .taimh = true ∧ us.sr.s = false) := by decide

theorem witness_StoreWords :
    (guarded.mem.wf = true ∧ storesWord guarded (.sta (.abs 0xFDFE)) = some (.abs 0xFDFE, guarded.a) ∧
      guarded.internalOk (guarded.ea (.abs 0xFDFE)) ∧ guarded.storeOk (guarded.ea (.abs 0xFDFE)) 2) ∧
    (st.storeOk (st.ea (.abs 0xFFFF)) 2 ∧ st.internalOk (st.ea (.abs 0xFFFF))) ∧
    (us.mem.wf = true ∧ storesWord us (.stpc 0x5000) = some (.abs 0x5000, us.pc) ∧
      ¬ us.internalOk (us.ea (.abs 0x5000))) := by decide

theorem witness_StoreBytes :
    (guarded.mem.wf = true ∧ storesByte guarded (.stah (.abs 0xFDFF)) = some (.abs 0xFDFF, highOf guarded.a) ∧
      guarded.internalOk (guarded.ea (.abs 0xFDFF)) ∧ guarded.storeOk (guarded.ea (.abs 0xFDFF)) 1) ∧
    (us.mem.wf = true ∧ storesByte us (.stsr 0x34FF) = some (.abs 0x34FF, statusByte us.sr) ∧
      ¬ us.internalOk (us.ea (.abs 0x34FF))) := by decide

theorem witness_RomWriteStops :
    (storesWord guarded (.stb (.abs 0xFDFF)) = some (.abs 0xFDFF, guarded.b) ∧
      guarded.internalOk (guarded.ea (.abs 0xFDFF)) ∧ ¬ guarded.storeOk (guarded.ea (.abs 0xFDFF)) 2) ∧
    (storesByte guarded (.stbh (.abs 0xFE00)) = some (.abs 0xFE00, highOf guarded.b) ∧
      guarded.internalOk (guarded.ea (.abs 0xFE00)) ∧ ¬ guarded.storeOk (guarded.ea (.abs 0xFE00)) 1) ∧
    (pushOperandOk { guarded with sp := 0xFDFE } .frame ∧
      ({ guarded with sp := 0xFDFE } : State).stackOk (0xFDFE + wordOf (pushedCount .frame)) ∧
      ¬ ({ guarded with sp := 0xFDFE } : State).storeOk 0xFDFE (pushedCount .frame)) :=
  ⟨by decide, by decide, trivial, by decide⟩

theorem witness_PushResult :
    PushForm.mem (.abs 0x4FFF) ≠ .frame ∧ us.mem.wf = true ∧ pushOperandOk us (.mem (.abs 0x4FFF)) ∧
      us.stackOk (us.sp + wordOf (pushedCount (.mem (.abs 0x4FFF)))) ∧
      us.storeOk us.sp (pushedCount (.mem (.abs 0x4FFF))) :=
  ⟨by decide, by decide, (by decide : us.internalOk 0x4FFF), by decide, by decide⟩

theorem witness_PushFrame :
    ({ us with sp := 0x4FFC } : State).mem.wf = true ∧ ({ us with sp := 0x4FFC } : State).stackOk (0x4FFC + 3) ∧
      ({ us with sp := 0x4FFC } : State).storeOk 0x4FFC 3 := by decide

theorem witness_PopResult :
    (popsWord .base = some .b ∧ ({ us with sp := 0x3502 } : State).stackOk (0x3502 - 2)) ∧
    (popsByte .al = some .al ∧ ({ us with sp := 0x3501 } : State).stackOk (0x3501 - 1)) := by decide

theorem witness_ReturnResult : ({ us with sp := 0x3503 } : State).stackOk (0x3503 - 3) := by decide

theorem witness_PushThenPop :
    (us.mem.wf = true ∧ popsWord .accumulator = some .a ∧ pushedBytes us .base = [highOf us.b, lowOf us.b] ∧
      (∀ k, k < 2 → (us.sp + wordOf k).toNat < 0xFE00) ∧ us.stackOk (us.sp + 2) ∧
      (∃ t, exec (.psh .base) us = .next t) ∧ pushOperandOk us .base) ∧
    (us.mem.wf = true ∧ popsByte .ah = some .ah ∧ pushedBytes us (.imm8 0x80) = [0x80] ∧ us.sp.toNat < 0xFE00 ∧
      us.stackOk (us.sp + 1) ∧ ∃ t, exec (.psh (.imm8 0x80)) us = .next t) :=
  ⟨⟨by decide, by decide, by decide, by decide, by decide, ⟨_, rfl⟩, trivial⟩,
    by decide, by decide, by decide, by decide, by decide, ⟨_, rfl⟩⟩

theorem witness_FrameThenReturn :
    us.mem.wf = true ∧ us.stackOk (us.sp + 3) ∧ (∀ k, k < 3 → (us.sp + wordOf k).toNat < 0xFE00) ∧
      ∃ t u : State, exec (.psh .frame) us = .next t ∧ u.sp = t.sp ∧
        (∀ k, k < 3 → u.readCell (us.sp + wordOf k) = t.readCell (us.sp + wordOf k)) ∧ u.stackOk us.sp :=
  ⟨by decide, by decide, by decide, _, _, rfl, rfl, fun _ _ => rfl, by decide⟩

theorem witness_StackTraps :
    (pushOperandOk { us with sp := 0x4FFF } .ah ∧
      ¬ ({ us with sp := 0x4FFF } : State).stackOk (0x4FFF + wordOf (pushedCount .ah))) ∧
    ¬ pushOperandOk us (.mem (.abs 0x5000)) ∧
    (popsWord .base = some .b ∧ ¬ ({ us with sp := 0x3501 } : State).stackOk (0x3501 - 2)) ∧
    (popsByte .ah = some .ah ∧ ¬ ({ us with sp := 0x3500 } : State).stackOk (0x3500 - 1)) ∧
    ¬ ({ us with sp := 0x3502 } : State).stackOk (0x3502 - 3) :=
  ⟨⟨trivial, by decide⟩, (by decide : ¬ us.internalOk 0x5000), by decide, by decide, by decide⟩

theorem witness_FlagInstructions :
    st.sr.s = true ∧ (Instr.ses ∈ [Instr.cld, .sed, .cli, .sei, .cls, .ses] ∧ us.sr.s = false) := by decide

theorem witness_CompareFlags :
    (comparesWord (.cmpi (.mem (.abs 0x3500))) = some (.i, .mem (.abs 0x3500)) ∧ (Source.mem (.abs 0x3500)).ok us) ∧
    (comparesByte (.cmah (.mem (.abs 0x4FFF))) = some (.ah, .mem (.abs 0x4FFF)) ∧
      (ByteSource.mem (.abs 0x4FFF)).ok us) ∧
    (comparesWord (.cmpa (.mem (.abs 0x34FF))) = some (.a, .mem (.abs 0x34FF)) ∧ ¬ (Source.mem (.abs 0x34FF)).ok us) ∧
    (comparesByte (.cmbh (.mem (.abs 0x5000))) = some (.bh, .mem (.abs 0x5000)) ∧
      ¬ (ByteSource.mem (.abs 0x5000)).ok us) :=
  ⟨⟨rfl, (by decide : us.internalOk 0x3500)⟩, ⟨rfl, (by decide : us.internalOk 0x4FFF)⟩,
    ⟨rfl, (by decide : ¬ us.internalOk 0x34FF)⟩, rfl, (by decide : ¬ us.internalOk 0x5000)⟩

theorem witness_ConditionalJumps :
    jumpsWhen st.sr (.jcc (.rel 0x80)) = some (true, .rel 0x80) ∧
    jumpsWhen st.sr (.jeq .relJ) = some (false, .relJ) := by decide

theorem witness_KillStops : st.sr.s = true := by decide

theorem witness_ReadResult :
    (us.externalOk (readFrom us (.abs 0x01FF)) ∧ ({ us with ioAnswers := [0x33] } : State).ioAnswers = 0x33 :: []) ∧
    ¬ us.externalOk (readFrom us (.abs 0x0200)) := by decide

theorem witness_WriteResult :
    (writesOut us (.wrte (.abs 0x0100)) = some (0x0100, .reg .ah) ∧ (ByteSource.reg .ah).ok us ∧ us.externalOk 0x0100) ∧
    (writesOut us (.wrti (.mem (.abs 0x34FF))) = some (us.i, .mem (.abs 0x34FF)) ∧
      ¬ (ByteSource.mem (.abs 0x34FF)).ok us) ∧
    (writesOut us (.wrte (.abs 0x0200)) = some (0x0200, .reg .ah) ∧ (ByteSource.reg .ah).ok us ∧
      ¬ us.externalOk 0x0200) :=
  ⟨⟨rfl, trivial, by decide⟩, ⟨rfl, (by decide : ¬ us.internalOk 0x34FF)⟩, rfl, trivial, by decide⟩

theorem witness_StarredTraps : starred .rest = true ∧ us.sr.s = false := by decide

theorem witness_InterruptEntry : us.mem.wf = true ∧ us.enter (.nmi 1) us.pc = us.enter (.nmi 1) us.pc := by decide

theorem witness_ResetEffect :
    ({ us with inputs := [⟨true, none, none⟩] } : State).boundaryInput.reset = true ∧ st.sr.s = true ∧
    (({ us with run := .stopped } : State).boundaryInput.reset = false ∧
      ({ us with run := .stopped } : State).run = .stopped) := by decide

theorem witness_StepRunsInstruction :
    st.quietBoundary ∧ decode st.fetchBytes = .ok (.nop .op0000, [0x00, 0x00]) := by decide

theorem witness_Unrecognised :
    [0x005E, 0x006A, 0x3FFB, 0x405E, 0x7FFE, 0x80AA, 0x80AF, 0x80C0, 0x80FD, 0x8100, 0xFFFF].all (fun op =>
      let s := st.placeBytes 0x4000 [highOf op, lowOf op]
      decide s.quietBoundary && (wordAt s s.pc == op) && opcodeUnrecognised op.toNat) = true := by decide

/-- A state whose DR has run out, with an EIRQ presented. -/
def both : State := { st with dr := 0, inputs := [⟨false, none, some (0xFFFF, 0x01)⟩] }

/-- `LDDR #3` at the PC, with three decrements drawn for it. -/
def passing : State := { st with drDraws := [2] }.placeBytes st.pc [0x80, 0x8C, 0x00, 0x03]

theorem witness_TimerInterrupt :
    (both.boundaryInput.reset = false ∧ both.run = .running ∧ noNmi both ∧ dueDrInr both ∧
      both.cfg.irqPriority = .drInrFirst) ∧
    (passing.quietBoundary ∧ decode passing.fetchBytes = .ok (.lddr (.imm 0x0003), []) ∧
      ∃ t, exec (.lddr (.imm 0x0003)) { used passing with ir := wordAt passing passing.pc } = .next t ∧
        t.run = .running ∧ t.sr.d = true ∧ untilZero t ≤ extraOf t + 1) ∧
    (st.drDraws = [] ∧ st.cfg.extraTicks = [] ∧ st.cfg.extraTicksElse = 0 ∧ st.drHit = false ∧
      ∃ t, step st = .next t) :=
  ⟨⟨rfl, rfl, .inl rfl, ⟨.inl rfl, rfl⟩, rfl⟩,
    ⟨by decide, by decide, _, rfl, by decide, by decide, by decide⟩, rfl, rfl, rfl, rfl, _, rfl⟩

theorem witness_ExternalInterrupt :
    let s := { both with cfg := { Config.standard with irqPriority := .eirqFirst } }
    s.boundaryInput.reset = false ∧ s.run = .running ∧ s.boundaryInput.nmi = none ∧
      s.boundaryInput.eirq = some (0xFFFF, 0x01) ∧ s.sr.i = true ∧ s.cfg.irqPriority = .eirqFirst := by decide

theorem witness_ExternalNmi :
    let s := { st with cfg := { Config.standard with hasExternalNmi := true }, inputs := [⟨false, some 0x07, none⟩] }
    s.boundaryInput.reset = false ∧ s.run = .running ∧ s.cfg.hasExternalNmi = true ∧
      s.boundaryInput.nmi = some 0x07 := by decide

theorem witness_MaskedRequest :
    let s := { both with sr := status 0x1C }
    s.inputs = ⟨false, none, some (0xFFFF, 0x01)⟩ :: [] ∧ s.sr.i = false := by decide

theorem witness_EncodeOfDecode : decode [0x80, 0xFF, 0x01] = .ok (.ret, [0x01]) := by decide

theorem witness_EncodedLength :
    encode .ret = 0x80 :: 0xFF :: [] ∧ encode (.jmp (.ind 0xFF00)) = 0x80 :: 0x32 :: [0xFF, 0x00] := by decide

theorem witness_FetchPlaced : ({ st with pc := 0xFFFE } : State).mem.wf = true := by decide

theorem witness_StatusBit2 :
    (guarded.mem.wf = true ∧ guarded.internalOk 0xFDFF ∧ (0xFDFF : Word).toNat < 0xFE00) ∧
    (st.mem.wf = true ∧ ({ st with sp := 0xFDFF } : State).stackOk (0xFDFF + 3) ∧
      ({ st with sp := 0xFDFF } : State).storeOk 0xFDFF 3) ∧
    (src8 AbsIndMode.toMem (.imm 0xFF)).ok us ∧ ({ us with sp := 0x3503 } : State).stackOk (0x3503 - 3) :=
  ⟨by decide, by decide, trivial, by decide⟩

theorem witness_LatestWrite : ({ st with mem := [(0xFDFF, 0x01)] } : State).mem.wf = true := by decide

theorem witness_CanonicalMemory :
    Memory.wf [(0xFFFF, 0x01)] = true ∧ ∀ a, Memory.read [(0xFFFF, 0x01)] a = Memory.read [(0xFFFF, 0x01)] a :=
  ⟨by decide, fun _ => rfl⟩

theorem witness_StepKeepsInvariant : us.Inv ∧ ∃ t, step us = .next t := ⟨by decide, _, rfl⟩

theorem witness_FlagTable : ∃ t, exec (.ada .other) us = .next t := ⟨_, rfl⟩

theorem witness_PcAdvance : writesPc (.ada .other) = false ∧ ∃ t, exec (.ada .other) us = .next t := ⟨rfl, _, rfl⟩

theorem witness_UserToSystem :
    (us.mem.wf = true ∧ us.sr.s = false) ∧
    (next (us.placeBytes us.pc [0x3F, 0xFF])).map (fun t => t.sr.s) = some true ∧
    (next { us with inputs := [⟨true, none, none⟩] }).map (fun t => t.sr.s) = some true := by decide

theorem witness_UserStores :
    let s := { us with a := 0x1234, imhi := 0x4FFF }.placeBytes us.pc [0x80, 0x65, 0x4F, 0xFF]
    s.mem.wf = true ∧ s.sr.s = false ∧ s.imhi.toNat < 0xFE00 ∧
      (next s).map (fun t => (t.readCell 0x4FFF, t.readCell 0x5000)) = some (0x12, 0x34) ∧
      s.readCell 0x4FFF ≠ 0x12 ∧ s.readCell 0x5000 ≠ 0x34 := by decide

theorem witness_IoConfined :
    (next (us.placeBytes us.pc [0x80, 0x85, 0x01, 0xFF])).map (fun t => t.ioTrace) = some [.write 0x01FF 0x00] ∧
      us.sr.s = false := by decide

theorem witness_UserLeavesBounds : (∃ t, step us = .next t) ∧ us.sr.s = false := ⟨⟨_, rfl⟩, rfl⟩

theorem witness_StepTotal : us.cfg.romWrite = .ignore := rfl

theorem witness_StaysStopped :
    let s := { us with run := .stopped, inputs := [⟨false, none, some (0x0042, 0x99)⟩] }
    s.run = .stopped ∧ ∀ x ∈ s.inputs, x.reset = false := by decide

end Sys2Proof.Tests
end

section
/-! PROOF of StatusBit2 (R23). First the equations of the checked operations where their checks pass, which the laws in
Laws/Ops.lean give in the other direction; then what a cell reads as after a store beside it; then SR as a byte; last the
four instructions and the interrupt entry that the statement names. -/

namespace Sys2Proof.Machine

/-! ## The guards where they pass -/

/-- `CheckInt` lets the rest run, with AR written (R56). -/
theorem checkInt_of_internalOk {s : State} {a : Word} (rest : State → Out) (h : s.internalOk a) :
    checkInt a s rest = rest (s.withAr a) := by
  unfold checkInt State.inInternal
  exact if_pos (by simpa using h)

/-- `CheckSP` lets the rest run (R61). -/
theorem checkSp_of_stackOk {s : State} {p : Word} (rest : Out) (h : s.stackOk p) : checkSp p s rest = rest := by
  unfold checkSp State.inInternal
  exact if_pos (by simpa using h)

/-- `romGuard` lets the rest run: the parameter is `ignore`, or no cell of the store is in the ROM. -/
theorem romGuard_of_storeOk {s : State} {a : Word} {n : Nat} (rest : Out) (h : s.storeOk a n) :
    romGuard a n s rest = rest := by
  refine if_neg fun hg => ?_
  obtain ⟨hfault, htouch⟩ : s.cfg.romWrite = .fault ∧ ∃ k < n, inRom (a + BitVec.ofNat 16 k) = true := by
    simpa [touchesRom] using hg
  rcases h with hignore | hram
  · simp [hignore] at hfault
  · obtain ⟨k, hk, hrom⟩ := htouch
    have := hram k hk
    simp only [inRom, decide_eq_true_eq] at hrom
    omega

/-- A byte store outside the ROM completes (R58, R180). -/
theorem store8_of_ok {s : State} {m : MemMode} (v : Byte) (hok : s.internalOk (s.ea m))
    (hram : (s.ea m).toNat < 0xFE00) :
    store8 m v s = finish m.length ((s.withAr (s.ea m)).writeCell (s.ea m) v) := by
  have hstore : (s.withAr (s.ea m)).storeOk (s.ea m) 1 := .inr fun k hk => by
    obtain rfl : k = 0 := by omega
    simpa using hram
  unfold store8
  rw [checkInt_of_internalOk _ hok, romGuard_of_storeOk _ hstore]

/-- A push whose checks pass completes (R200). -/
theorem pushing_of_ok {s : State} {n : Nat} (len : Nat) (push : State → State)
    (hstack : s.stackOk (s.sp + BitVec.ofNat 16 n)) (hstore : s.storeOk s.sp n) :
    pushing n len s push = finish len (push s) := by
  unfold pushing
  rw [checkSp_of_stackOk _ hstack, romGuard_of_storeOk _ hstore]

/-! ## Reads after stores -/

/-- A cell outside the ROM reads as the byte just stored to it (R43). -/
theorem State.readCell_writeCell_self {s : State} {a : Word} (v : Byte) (h : s.mem.wf = true)
    (ha : a.toNat < 0xFE00) : (s.writeCell a v).readCell a = v := by
  have hram : inRom a = false := by simpa [inRom] using ha
  rw [State.readCell_writeCell a a v h, if_pos ⟨rfl, hram⟩]

/-- A store of a word leaves every cell but its two alone (R43). -/
theorem State.readCell_writeWord_of_ne {s : State} {a x : Word} (v : Word) (h : s.mem.wf = true) (hhi : x ≠ a)
    (hlo : x ≠ a + 1) : (s.writeWord a v).readCell x = s.readCell x := by
  unfold State.writeWord
  rw [State.readCell_writeCell _ x _ (State.writeCell_wf _ _ h), State.readCell_writeCell _ x _ h,
    if_neg fun hx => hlo hx.1, if_neg fun hx => hhi hx.1]

/-- A pushed byte keeps the canonical form. -/
theorem State.pushByte_wf {s : State} (v : Byte) (h : s.mem.wf = true) : (s.pushByte v).mem.wf = true :=
  State.writeCell_wf _ _ h

/-- A pushed byte stands where SP was (R60). -/
theorem State.readCell_pushByte_self {s : State} (v : Byte) (h : s.mem.wf = true) (ha : s.sp.toNat < 0xFE00) :
    (s.pushByte v).readCell s.sp = v := by
  rw [pushByte_eq, State.readCell_set16, State.readCell_writeCell_self v h ha]

/-- A pushed word leaves every cell but its two alone (R60). -/
theorem State.readCell_pushWord_of_ne {s : State} {x : Word} (v : Word) (h : s.mem.wf = true) (hhi : x ≠ s.sp)
    (hlo : x ≠ s.sp + 1) : (s.pushWord v).readCell x = s.readCell x := by
  rw [pushWord_eq, State.readCell_set16, State.readCell_writeWord_of_ne v h hhi hlo]

/-- A byte pushed before a word still stands at the SP of before: the word goes to the next two cells (R60). -/
theorem State.readCell_pushByte_pushWord {s : State} (v : Byte) (w : Word) (h : s.mem.wf = true)
    (ha : s.sp.toNat < 0xFE00) : ((s.pushByte v).pushWord w).readCell s.sp = v := by
  have hsp : (s.pushByte v).sp = s.sp + 1 := rfl
  have hhi : s.sp ≠ s.sp + 1 := by bv_omega
  have hlo : s.sp ≠ s.sp + 1 + 1 := by bv_omega
  rw [State.readCell_pushWord_of_ne w (State.pushByte_wf v h) (hsp ▸ hhi) (hsp ▸ hlo),
    State.readCell_pushByte_self v h ha]

/-- The save area holds SR at 0x2012 (R48, R310): the later saves of A and B go above it. -/
theorem readCell_saveContext_sr {s : State} (p : Word) (h : s.mem.wf = true) :
    (s.saveContext p).readCell 0x2012 = s.sr.toByte := by
  have hpc := State.writeWord_wf 0x2010 p h
  have hsr := State.writeCell_wf 0x2012 s.sr.toByte hpc
  have ha := State.writeWord_wf 0x2013 s.a hsr
  unfold State.saveContext
  rw [State.readCell_writeWord_of_ne s.b ha (by decide) (by decide),
    State.readCell_writeWord_of_ne s.a hsr (by decide) (by decide),
    State.readCell_writeCell_self s.sr.toByte hpc (by decide)]

/-- After an interrupt's entry 0x2012 holds the SR of before (R310). -/
theorem readCell_enter_sr {s : State} (k : Interrupt) (p : Word) (h : s.mem.wf = true) :
    (s.enter k p).readCell 0x2012 = s.sr.toByte := by
  rw [State.readCell_congr (enter_mem s k p), readCell_saveContext_sr p h]

/-! ## Bit 2 of SR as a byte -/

/-- The stored byte has bit 2 set (R23). -/
theorem Status.toByte_bit2 (f : Status) : f.toByte.getLsbD 2 = true := by
  -- past C and Z, the two lowest bits of the concatenation, stands the literal 1
  unfold Status.toByte
  rw [BitVec.getLsbD_append, BitVec.getLsbD_append, BitVec.getLsbD_append]
  rfl

/-- The flags of a byte do not depend on its bit 2 (R23). -/
theorem Status.ofByte_xor_bit2 (v : Byte) : Status.ofByte (v ^^^ 0x04) = Status.ofByte v := by
  simp [Status.ofByte]

/-- The flags that a loaded byte gives do not depend on its bit 2 (R23). -/
theorem Status.load_xor_bit2 (f : Status) (v : Byte) : f.load (v ^^^ 0x04) = f.load v := by
  unfold Status.load
  rw [Status.ofByte_xor_bit2]

/-! ## The instructions that store or load SR -/

/-- `STSR` puts the SR byte at its address, outside the ROM (R188). -/
theorem exec_stsr_readCell {s : State} {arg : Word} (h : s.mem.wf = true) (hok : s.internalOk arg)
    (hram : arg.toNat < 0xFE00) : ∃ t, exec (.stsr arg) s = .next t ∧ t.readCell arg = s.sr.toByte := by
  have hexec : exec (.stsr arg) s = store8 (.abs arg) s.sr.toByte s := rfl
  refine ⟨_, hexec.trans (store8_of_ok s.sr.toByte hok hram), ?_⟩
  exact State.readCell_writeCell_self (s := s.withAr arg) _ h hram

/-- `PSH` (0064) puts the SR byte where SP was, outside the ROM (R200). -/
theorem exec_psh_frame_readCell {s : State} (h : s.mem.wf = true) (hstack : s.stackOk (s.sp + 3))
    (hstore : s.storeOk s.sp 3) (hram : s.sp.toNat < 0xFE00) :
    ∃ t, exec (.psh .frame) s = .next t ∧ t.readCell s.sp = s.sr.toByte := by
  have hexec : exec (.psh .frame) s =
      pushing 3 2 s fun t => (t.pushByte s.sr.toByte).pushWord (s.pc + 5) := rfl
  refine ⟨_, hexec.trans (pushing_of_ok 2 _ hstack hstore), ?_⟩
  rw [State.readCell_withPc, State.readCell_pushByte_pushWord _ _ h hram]

/-- `LDSR` loads its operand's byte into SR (R150). -/
theorem exec_ldsr_sr {s : State} {f : Src8 AbsIndMode} (hok : (Claims.src8 AbsIndMode.toMem f).ok s) :
    ∃ t, exec (.ldsr f) s = .next t ∧ t.sr = s.sr.load ((Claims.src8 AbsIndMode.toMem f).value s) := by
  cases f with
  | imm v => exact ⟨_, rfl, rfl⟩
  | mem m =>
    have hexec : exec (.ldsr (.mem m)) s =
        checkInt (s.ea m.toMem) s fun t => putStatus (t.readCell (s.ea m.toMem)) m.toMem.length t := rfl
    exact ⟨_, hexec.trans (checkInt_of_internalOk _ hok), rfl⟩

/-- `RET` loads the lowest byte of its frame into SR (R202). -/
theorem exec_ret_sr {s : State} (hstack : s.stackOk (s.sp - 3)) :
    ∃ t, exec .ret s = .next t ∧ t.sr = s.sr.load (s.readCell (s.sp - 3)) := by
  have hexec : exec .ret s = checkSp (s.sp - 3) s (.next s.returnFrame) := rfl
  refine ⟨_, hexec.trans (checkSp_of_stackOk _ hstack), ?_⟩
  rw [returnFrame_eq]

end Sys2Proof.Machine

namespace Sys2Proof.Claims

open Sys2Proof.Machine

/-- Settles O47: every stored copy is `Status.toByte`, whose bit 2 is set, and every load goes through `Status.load`,
which ignores it. -/
theorem statusBit2 : Obligations.StatusBit2 := by
  refine ⟨fun s arg hwf hok hram => ?stsr, fun s hwf hstack hstore hram => ?frame, fun s k p hwf => ?entry,
    fun s f hok => exec_ldsr_sr hok, fun s hstack => exec_ret_sr hstack, fun f v => (f.load_xor_bit2 v).symm⟩
  case stsr =>
    obtain ⟨t, hexec, hcell⟩ := exec_stsr_readCell hwf hok hram
    exact ⟨t, hexec, by rw [hcell, Status.toByte_bit2]⟩
  case frame =>
    obtain ⟨t, hexec, hcell⟩ := exec_psh_frame_readCell hwf hstack hstore hram
    exact ⟨t, hexec, by rw [hcell, Status.toByte_bit2]⟩
  case entry => rw [readCell_enter_sr k p hwf, Status.toByte_bit2]

end Sys2Proof.Claims
end

section
/-! PROOF of IncrementDecrement (R102). First what words and flags are as numbers, which other results can use too; then
the shared operations of the increments and decrements; then which of the eight instructions is which of them. -/

namespace Sys2Proof.Machine

open Sys2Proof.Claims

/-! ## Words and flags as numbers -/

/-- A sum whose second term is given as a number is the sum of the numbers, modulo 2^w. -/
theorem add_ofNat_eq {w : Nat} (x : BitVec w) (k : Nat) : x + BitVec.ofNat w k = BitVec.ofNat w (x.toNat + k) := by
  rw [BitVec.ofNat_add, BitVec.ofNat_toNat, BitVec.setWidth_eq]

/-- Subtracting 1 is adding the number 2^w - 1 modulo 2^w. -/
theorem sub_one_eq {w : Nat} (x : BitVec w) : x - 1#w = BitVec.ofNat w (x.toNat + (2 ^ w - 1)) := by
  rw [← add_ofNat_eq, BitVec.sub_eq_add_neg, BitVec.neg_one_eq_allOnes, BitVec.allOnes, BitVec.ofNatLT_eq_ofNat]

/-- The model's N and Z of a result are those of its number (R35). -/
theorem Status.setNZ_eq {w : Nat} (f : Status) (v : BitVec w) : f.setNZ v = nzFlags w f v.toNat := by
  have hz : (v == 0) = decide (v.toNat = 0) := by
    rw [Bool.eq_iff_iff, beq_iff_eq, decide_eq_true_iff]
    exact BitVec.toNat_eq
  unfold Status.setNZ nzFlags
  rw [BitVec.msb_eq_decide, hz]

/-! ## The shared operations -/

/-- A word register's step, to the word of a number: register, N, Z and PC are written (R102). -/
theorem stepReg16_wordOf (r : Reg16) (m : Nat) (s : State) :
    stepReg16 r (wordOf m) s =
      .next { s.set16 r (wordOf m) with sr := nzFlags 16 s.sr (m % 65536), pc := pcPlus s 2 } := by
  unfold stepReg16
  rw [finish_eq, add_ofNat_eq, State.withSr_pc, State.set16_pc, Status.setNZ_eq]
  rfl

/-- A step of J, to the byte of a number: J, N, Z and PC are written (R102). -/
theorem stepJ_byteOf (m : Nat) (s : State) :
    stepJ (byteOf m) s = .next { s with j := byteOf m, sr := nzFlags 8 s.sr (m % 256), pc := pcPlus s 2 } := by
  unfold stepJ
  rw [finish_eq, add_ofNat_eq, State.withSr_pc, State.set8_pc, Status.setNZ_eq]
  rfl

/-! ## The eight instructions -/

/-- A word increment or decrement is the step of its register to the sum of the numbers (R106-R108, R110-R112). -/
theorem exec_of_countWord {i : Instr} {r : Reg16} {k : Nat} (s : State) (h : countWord i = some (r, k)) :
    exec i s = stepReg16 r (wordOf ((s.get16 r).toNat + k)) s := by
  have inc (q : Reg16) : s.get16 q + 1 = wordOf ((s.get16 q).toNat + 1) := add_ofNat_eq _ 1
  have dec (q : Reg16) : s.get16 q - 1 = wordOf ((s.get16 q).toNat + 0xFFFF) := sub_one_eq _
  cases i with
  | ina => cases h; exact congrArg (stepReg16 .a · s) (inc .a)
  | inb => cases h; exact congrArg (stepReg16 .b · s) (inc .b)
  | ini => cases h; exact congrArg (stepReg16 .i · s) (inc .i)
  | dea => cases h; exact congrArg (stepReg16 .a · s) (dec .a)
  | deb => cases h; exact congrArg (stepReg16 .b · s) (dec .b)
  | dei => cases h; exact congrArg (stepReg16 .i · s) (dec .i)
  | _ => cases h

/-- `INJ` and `DEJ` are the step of J to the sum of the numbers (R109, R113). -/
theorem exec_of_countByte {i : Instr} {k : Nat} (s : State) (h : countByte i = some k) :
    exec i s = stepJ (byteOf (s.j.toNat + k)) s := by
  cases i with
  | inj => cases h; exact congrArg (stepJ · s) (add_ofNat_eq s.j 1)
  | dej => cases h; exact congrArg (stepJ · s) (sub_one_eq s.j)
  | _ => cases h

end Sys2Proof.Machine

namespace Sys2Proof.Claims

open Sys2Proof.Machine

/-- Settles O3: each of the eight is a step of its register to the sum modulo 2^n, and such a step writes the register,
N, Z and the PC. -/
theorem incrementDecrement : Obligations.IncrementDecrement :=
  ⟨fun s _ r k h => (exec_of_countWord s h).trans (stepReg16_wordOf r ((s.get16 r).toNat + k) s),
    fun s _ k h => (exec_of_countByte s h).trans (stepJ_byteOf (s.j.toNat + k) s)⟩

end Sys2Proof.Claims
end

section
/-! PROOF of FlagInstructions (R211-R219). First what `RequireS` answers in each mode, which the laws in Laws/Ops.lean give
in the other direction; then the shared ending of the flag instructions; then the starred six of them. -/

namespace Sys2Proof.Machine

open Sys2Proof.Claims

/-! ## `RequireS` in each mode -/

/-- In system mode `RequireS` lets the rest run (R321). -/
theorem requireS_of_system {s : State} (rest : Out) (h : s.sr.s = true) : requireS s rest = rest := if_pos h

/-- In user mode `RequireS` issues NMI with cause 2, whatever the rest is (R321). -/
theorem requireS_of_user {s : State} (rest : Out) (h : s.sr.s = false) :
    requireS s rest = .next (raised s (.nmi 2)) := by
  unfold requireS
  rw [if_neg (by simp [h]), raise_eq]
  rfl

/-! ## The flag instructions -/

/-- A flag instruction's ending writes SR and the PC. -/
theorem putFlags_eq (f : Status) (s : State) : putFlags f s = .next { s with sr := f, pc := pcPlus s 2 } := by
  unfold putFlags
  rw [finish_eq, add_ofNat_eq, State.withSr_pc]
  rfl

/-- Words are equal when their numbers are. -/
theorem beq_eq_decide_toNat {w : Nat} (x y : BitVec w) : (x == y) = decide (x.toNat = y.toNat) := by
  rw [Bool.eq_iff_iff, beq_iff_eq, decide_eq_true_iff]
  exact BitVec.toNat_eq

/-- `ARET` sets Z by whether A's number is that of `RET` (R211). -/
theorem exec_aret (s : State) :
    exec .aret s = putFlags { s.sr with z := decide (s.a.toNat = 0x80FF) } s := by
  have hexec : exec .aret s = putFlags { s.sr with z := s.a == 0x80FF } s := rfl
  rw [hexec, beq_eq_decide_toNat]
  rfl

/-- In system mode an instruction that writes its flags behind `RequireS` writes them. -/
theorem exec_flags_of_system {s : State} {i : Instr} {f : Status} (hexec : exec i s = requireS s (putFlags f s))
    (h : s.sr.s = true) : exec i s = .next { s with sr := f, pc := pcPlus s 2 } := by
  rw [hexec, requireS_of_system _ h, putFlags_eq]

/-- The starred flag instructions write their flags behind `RequireS` (R213, R214, R216-R219). -/
theorem exec_starredFlag (s : State) {i : Instr} (hi : i ∈ [Instr.cld, .sed, .cli, .sei, .cls, .ses]) :
    ∃ f, exec i s = requireS s (putFlags f s) := by
  simp only [List.mem_cons, List.not_mem_nil, or_false] at hi
  obtain rfl | rfl | rfl | rfl | rfl | rfl := hi
  · exact ⟨{ s.sr with d := false }, rfl⟩
  · exact ⟨{ s.sr with d := true }, rfl⟩
  · exact ⟨{ s.sr with i := false }, rfl⟩
  · exact ⟨{ s.sr with i := true }, rfl⟩
  · exact ⟨{ s.sr with s := false }, rfl⟩
  · exact ⟨{ s.sr with s := true }, rfl⟩

end Sys2Proof.Machine

namespace Sys2Proof.Claims

open Sys2Proof.Machine

/-- Settles O21: each flag instruction ends in `putFlags`, which writes SR and the PC; the starred six pass `RequireS`
first, which in user mode issues the NMI instead. -/
theorem flagInstructions : Obligations.FlagInstructions := by
  refine ⟨?opcodes, fun s => ⟨?aret, ?clc, ?clo⟩, fun s hs => ?system, fun s i hi hs => ?user⟩
  case opcodes => decide
  case aret => exact (exec_aret s).trans (putFlags_eq _ s)
  case clc => exact putFlags_eq { s.sr with c := false } s
  case clo => exact putFlags_eq { s.sr with o := false } s
  case system =>
    exact ⟨exec_flags_of_system rfl hs, exec_flags_of_system rfl hs, exec_flags_of_system rfl hs,
      exec_flags_of_system rfl hs, exec_flags_of_system rfl hs, exec_flags_of_system rfl hs⟩
  case user =>
    obtain ⟨f, hexec⟩ := exec_starredFlag s hi
    rw [hexec, requireS_of_user _ hs]

end Sys2Proof.Claims
end

section
/-! PROOF of the encoding statements (R70-R89): DecodeOfEncode, EncodeOfDecode, RecognisedOpcodes, EncodedLength,
DecodesWords, FetchPlaced. First that every instruction decodes from its own bytes, by its rows; then what an entry of the
opcode map promises, which gives the other direction; last the bytes placed at the PC. -/

namespace Sys2Proof

/-! ## Every instruction decodes from its encoding -/

/-- The decoder reads `i` back from its encoding, whatever follows. -/
def Instr.Decodes (i : Instr) : Prop := ∀ rest : List Byte, decode (encode i ++ rest) = .ok (i, rest)

/-- A row with a word argument: its two bytes are joined again (R75). -/
theorem Instr.decodes_long {i : Instr} {op arg : Word} {mk : Word → Instr} (hencode : encode i = encodeF2 op arg)
    (hlookup : lookupOpcode op = some (.f2 mk)) (hi : mk arg = i) : i.Decodes := by
  intro rest
  subst hi
  simp only [hencode, encodeF2, List.cons_append, List.nil_append, decode, Machine.joinBytes_hi_lo, hlookup]

/-- Every row of the opcode table decodes to itself: one case for each form type, its opcodes being found by
evaluation. -/
theorem Instr.decodes (i : Instr) : i.Decodes := by
  cases i with
  | ada form | adb form =>
    cases form with
    | other | imm8 v => exact fun _ => rfl
    | imm16 w => exact decodes_long rfl rfl rfl
    | mem m =>
      cases m with
      | zp v | zpX v => exact fun _ => rfl
      | abs w | absX w | ind w | indX w => exact decodes_long rfl rfl rfl
  | ana form | anb form | ora form | orb form | sua form | sub form | xora form | xorb form =>
    cases form with
    | other | index | imm8 v => exact fun _ => rfl
    | imm16 w => exact decodes_long rfl rfl rfl
    | mem m =>
      cases m with
      | zp v | zpX v => exact fun _ => rfl
      | abs w | absX w | ind w | indX w => exact decodes_long rfl rfl rfl
  | cmah form | cmbh form =>
    cases form with
    | other | imm8 v => exact fun _ => rfl
    | mem m =>
      cases m with
      | zp v | zpX v => exact fun _ => rfl
      | abs w | absX w | ind w | indX w => exact decodes_long rfl rfl rfl
  | cmpa form | cmpb form =>
    cases form with
    | other | index => exact fun _ => rfl
    | imm16 w => exact decodes_long rfl rfl rfl
    | mem m =>
      cases m with
      | zp v | zpX v => exact fun _ => rfl
      | abs w | absX w | ind w | indX w => exact decodes_long rfl rfl rfl
  | cmpi form =>
    cases form with
    | accumulator => exact fun _ => rfl
    | imm16 w => exact decodes_long rfl rfl rfl
    | mem m =>
      cases m with
      | zp v => exact fun _ => rfl
      | abs w | ind w => exact decodes_long rfl rfl rfl
  | semh m | seml m | simh m | siml m | sta m | stah m | stb m | stbh m =>
    cases m with
    | zp v | zpX v => exact fun _ => rfl
    | abs w | absX w | ind w | indX w => exact decodes_long rfl rfl rfl
  | sti m =>
    cases m with
    | zp v => exact fun _ => rfl
    | abs w | ind w => exact decodes_long rfl rfl rfl
  | stj m =>
    cases m with
    | zp v => exact fun _ => rfl
    | abs w | absX w | ind w | indX w => exact decodes_long rfl rfl rfl
  | stpc w | stsr w => exact decodes_long rfl rfl rfl
  | lda form | ldb form =>
    cases form with
    | imm w => exact decodes_long rfl rfl rfl
    | mem m => cases m with
      | abs w | absX w | ind w | indX w => exact decodes_long rfl rfl rfl
  | ldah form | ldal form | ldbh form | ldbl form =>
    cases form with
    | imm v => exact fun _ => rfl
    | mem m => cases m with
      | abs w | absX w | ind w | indX w => exact decodes_long rfl rfl rfl
  | lddr form | ldi form | ldsp form =>
    cases form with
    | imm w => exact decodes_long rfl rfl rfl
    | mem m => cases m with
      | abs w | ind w => exact decodes_long rfl rfl rfl
  | ldj form =>
    cases form with
    | imm v => exact fun _ => rfl
    | mem m =>
      cases m with
      | zp v => exact fun _ => rfl
      | abs w | ind w => exact decodes_long rfl rfl rfl
  | ldsr form =>
    cases form with
    | imm v => exact fun _ => rfl
    | mem m => cases m with
      | abs w | ind w => exact decodes_long rfl rfl rfl
  | lemh form | leml form | limh form | liml form =>
    cases form with
    | imm w => exact decodes_long rfl rfl rfl
    | mem m =>
      cases m with
      | zp v | zpX v => exact fun _ => rfl
      | abs w | ind w => exact decodes_long rfl rfl rfl
  | jcc form | jcs form | jeq form | jnc form | jne form | jns form | joc form | jos form =>
    cases form with
    | relJ | rel v => exact fun _ => rfl
    | abs w => exact decodes_long rfl rfl rfl
  | jmp form =>
    cases form with
    | accumulator | base | index | relJ | rel v => exact fun _ => rfl
    | abs w | ind w => exact decodes_long rfl rfl rfl
  | psh form =>
    cases form with
    | accumulator | base | ah | al | frame | imm8 v => exact fun _ => rfl
    | mem m =>
      cases m with
      | zp v | zpX v => exact fun _ => rfl
      | abs w | ind w | indX w => exact decodes_long rfl rfl rfl
  | read form =>
    cases form with
    | accumulator | base | zp v | zpX v => exact fun _ => rfl
    | abs w | absX w => exact decodes_long rfl rfl rfl
  | wrte form => cases form with
    | abs w | absX w => exact decodes_long rfl rfl rfl
  | wrti form =>
    cases form with
    | ah | bh | imm8 v => exact fun _ => rfl
    | mem m =>
      cases m with
      | zp v => exact fun _ => rfl
      | abs w | ind w => exact decodes_long rfl rfl rfl
  | kill form =>
    cases form with
    | op0001 | op3FFD => exact fun _ => rfl
    | op8086 w => exact decodes_long rfl rfl rfl
  | nop form =>
    cases form with
    | op8000 w | op8076 w | op8078 w | op80BF w | op80FE w => exact decodes_long rfl rfl rfl
    | _ => exact fun _ => rfl
  | pop form | msb form | shl form | shr form => cases form with
    | _ => exact fun _ => rfl
  | _ => exact fun _ => rfl

/-! ## What the opcode map promises of an opcode -/

/-- What an entry of the opcode map promises of the opcode it stands under: R80 does not list it, the encoder writes it in
front of the argument, and there are as many argument bytes as R72 says. -/
def Format.Fits (op : Nat) : Format → Prop
  | .f0 i => opcodeUnrecognised op = false ∧ encode i = encodeF0 (BitVec.ofNat 16 op) ∧ opcodeArgBytes op = 0
  | .f1 mk =>
    opcodeUnrecognised op = false ∧ (∀ arg, encode (mk arg) = encodeF1 (BitVec.ofNat 16 op) arg) ∧ opcodeArgBytes op = 1
  | .f2 mk =>
    opcodeUnrecognised op = false ∧ (∀ arg, encode (mk arg) = encodeF2 (BitVec.ofNat 16 op) arg) ∧ opcodeArgBytes op = 2

/-- Every entry of the opcode map keeps its promise. -/
theorem opcodePages_fit : ∀ p ∈ opcodePages, ∀ e ∈ p.2, e.2.Fits e.1 := by
  simp only [opcodePages, List.forall_mem_cons, opcodes0000, opcodes0014, opcodes0028, opcodes003C, opcodes0050,
    opcodes0065, opcodes400B, opcodes401F, opcodes4033, opcodes4047, opcodes405B, opcodes8010, opcodes8024,
    opcodes8038, opcodes804C, opcodes8060, opcodes8074, opcodes8088, opcodes809C, opcodes80B6, Format.Fits,
    List.not_mem_nil, false_implies, implies_true, and_true]
  and_intros <;> intros <;> rfl

/-- An entry found in a page stands in it. -/
theorem lookupIn_mem {op : Nat} {page : List (Nat × Format)} {f : Format} (h : lookupIn op page = some f) :
    (op, f) ∈ page := by
  induction page with
  | nil => cases h
  | cons e rest ih =>
    obtain ⟨k, g⟩ := e
    simp only [lookupIn] at h
    split at h
    · rename_i hk
      cases h
      rw [← eq_of_beq hk]
      exact List.mem_cons_self
    · exact List.mem_cons_of_mem _ (ih h)

/-- An entry found in the pages stands in one of them. -/
theorem lookupPages_mem {op : Nat} {pages : List (Nat × List (Nat × Format))} {f : Format}
    (h : lookupPages op pages = some f) : ∃ p ∈ pages, (op, f) ∈ p.2 := by
  induction pages with
  | nil => cases h
  | cons p rest ih =>
    obtain ⟨last, page⟩ := p
    simp only [lookupPages] at h
    split at h
    · exact ⟨_, List.mem_cons_self, lookupIn_mem h⟩
    · obtain ⟨q, hq, hf⟩ := ih h
      exact ⟨q, List.mem_cons_of_mem _ hq, hf⟩

/-- What the map finds under an opcode keeps its promise of that opcode. -/
theorem lookupOpcode_fits {op : Word} {f : Format} (h : lookupOpcode op = some f) : f.Fits op.toNat := by
  obtain ⟨p, hp, hf⟩ := lookupPages_mem h
  exact opcodePages_fit p hp _ hf

/-- R80 lists no opcode that the map has. -/
theorem lookupOpcode_recognised {op : Word} {f : Format} (h : lookupOpcode op = some f) :
    opcodeUnrecognised op.toNat = false := by
  have hfit := lookupOpcode_fits h
  cases f with
  | f0 i => exact hfit.1
  | f1 mk => exact hfit.1
  | f2 mk => exact hfit.1

/-- Bytes that decode are the encoding of what they decode to. -/
theorem eq_encode_of_decode {bytes rest : List Byte} {i : Instr} (h : decode bytes = .ok (i, rest)) :
    bytes = encode i ++ rest := by
  unfold decode at h
  split at h
  case h_2 => cases h
  rename_i hi lo args
  split at h <;> cases h
  all_goals
    rename_i hlookup
    obtain ⟨-, hencode, -⟩ := lookupOpcode_fits hlookup
    simp [hencode, encodeF0, encodeF1, encodeF2]

/-! ## The opcodes that the map covers -/

/-- Between the values of R80 lie these ranges: the first opcode and how many there are. -/
def recognisedRanges : List (Nat × Nat) :=
  [(0x0000, 0x5E), (0x005F, 0x0B), (0x3FFC, 0x62), (0x7FFF, 0xAB), (0x80B0, 0x10), (0x80FE, 0x02)]

/-- The map has every opcode of the ranges. -/
theorem lookupPages_of_range :
    (recognisedRanges.all fun r =>
      (List.range' r.1 r.2).all fun op => (lookupPages op opcodePages).isSome) = true := by decide

/-- R80's list as a disjunction. -/
theorem opcodeUnrecognised_iff (op : Nat) (h : op < 0x10000) :
    opcodeUnrecognised op = true ↔
      op = 0x005E ∨ (0x006A ≤ op ∧ op ≤ 0x3FFB) ∨ (0x405E ≤ op ∧ op ≤ 0x7FFE) ∨ (0x80AA ≤ op ∧ op ≤ 0x80AF) ∨
        (0x80C0 ≤ op ∧ op ≤ 0x80FD) ∨ (0x8100 ≤ op ∧ op ≤ 0xFFFF) := by
  simp only [opcodeUnrecognised, Bool.or_eq_true, Bool.and_eq_true, decide_eq_true_eq, beq_iff_eq]
  omega

/-- The map has every opcode that R80 does not list. -/
theorem lookupOpcode_isSome {op : Word} (h : opcodeUnrecognised op.toNat = false) : (lookupOpcode op).isSome = true := by
  have hlt := op.isLt
  have hrange : ∃ r ∈ recognisedRanges, op.toNat ∈ List.range' r.1 r.2 := by
    have hlisted := mt (opcodeUnrecognised_iff op.toNat hlt).2 (by simp [h])
    simp only [recognisedRanges, List.mem_range'_1, List.exists_mem_cons_iff, List.not_mem_nil, false_and, exists_false]
    omega
  obtain ⟨r, hr, hop⟩ := hrange
  exact List.all_eq_true.1 (List.all_eq_true.1 lookupPages_of_range r hr) _ hop

/-- The map has no entry exactly for the values of R80. -/
theorem lookupOpcode_eq_none_iff (op : Word) : lookupOpcode op = none ↔ opcodeUnrecognised op.toNat = true := by
  constructor
  · intro hnone
    by_contra h
    have hsome := lookupOpcode_isSome (Bool.eq_false_iff.2 h)
    simp [hnone] at hsome
  · intro hlisted
    cases hlookup : lookupOpcode op with
    | none => rfl
    | some f => simp [lookupOpcode_recognised hlookup] at hlisted

/-! ## The length of an encoding -/

/-- An encoding is an opcode of the map and as many argument bytes as R72 says. -/
theorem args_length_of_encode {i : Instr} {hi lo : Byte} {args : List Byte} (h : encode i = hi :: lo :: args) :
    args.length = opcodeArgBytes (joinBytes hi lo).toNat ∧ opcodeUnrecognised (joinBytes hi lo).toNat = false := by
  have hdecode := i.decodes []
  rw [h, List.append_nil] at hdecode
  unfold decode at hdecode
  simp only at hdecode
  split at hdecode <;> cases hdecode
  all_goals
    rename_i hlookup
    obtain ⟨hlisted, hencode, hargs⟩ := lookupOpcode_fits hlookup
    refine ⟨?_, hlisted⟩
    rw [hargs]
    rfl

/-- The number of a word is that of its two bytes. -/
theorem joinBytes_toNat (hi lo : Byte) : (joinBytes hi lo).toNat = hi.toNat * 256 + lo.toNat := by
  have hlo := lo.isLt
  rw [joinBytes, BitVec.toNat_append, ← Nat.shiftLeft_add_eq_or_of_lt hlo, Nat.shiftLeft_eq]

/-- `RET` alone stands under 80FF. -/
theorem eq_ret_iff {i : Instr} {hi lo : Byte} {args : List Byte} (h : encode i = hi :: lo :: args) :
    i = .ret ↔ (joinBytes hi lo).toNat = 0x80FF := by
  constructor
  · rintro rfl
    cases h
    rfl
  · intro hop
    have hlookup : lookupOpcode (joinBytes hi lo) = some (.f0 .ret) := by
      rw [show joinBytes hi lo = 0x80FF from BitVec.eq_of_toNat_eq hop]
      rfl
    have hdecode := i.decodes []
    rw [h, List.append_nil] at hdecode
    simp only [decode, hlookup, Except.ok.injEq, Prod.mk.injEq] at hdecode
    exact hdecode.1.symm

/-- Every encoding begins with two opcode bytes. -/
theorem encode_eq_cons (i : Instr) : ∃ hi lo args, encode i = hi :: lo :: args := by
  have hdecode := i.decodes []
  rw [List.append_nil] at hdecode
  match hbytes : encode i with
  | hi :: lo :: args => exact ⟨hi, lo, args, rfl⟩
  | [_] | [] => rw [hbytes] at hdecode; cases hdecode

/-- An encoding has at most four bytes (R71). -/
theorem encode_length_le (i : Instr) : (encode i).length ≤ 4 := by
  obtain ⟨hi, lo, args, h⟩ := encode_eq_cons i
  obtain ⟨hlength, hlisted⟩ := args_length_of_encode h
  have hlt := (joinBytes hi lo).isLt
  have hlisted := mt (opcodeUnrecognised_iff _ hlt).2 (by simp [hlisted])
  have hargs : opcodeArgBytes (joinBytes hi lo).toNat ≤ 2 := by
    unfold opcodeArgBytes
    split <;> omega
  simp only [h, List.length_cons]
  omega

end Sys2Proof

namespace Sys2Proof.Machine

/-! ## Bytes placed at the PC -/

/-- Placing bytes leaves the PC. -/
theorem State.placeBytes_pc (s : State) (a : Word) (bytes : List Byte) : (s.placeBytes a bytes).pc = s.pc := by
  induction bytes generalizing s a with
  | nil => rfl
  | cons v rest ih => exact ih _ _

/-- A cell that no placed byte falls on reads as before. -/
theorem State.readCell_placeBytes_of_ne (s : State) {a x : Word} (bytes : List Byte)
    (h : ∀ k < bytes.length, x ≠ a + BitVec.ofNat 16 k) : (s.placeBytes a bytes).readCell x = s.readCell x := by
  induction bytes generalizing s a with
  | nil => rfl
  | cons v rest ih =>
    have hx : x ≠ a := by simpa using h 0 (by simp)
    have hrest : ∀ k < rest.length, x ≠ a + 1 + BitVec.ofNat 16 k := fun k hk => by
      have hk' := h (k + 1) (by simpa using hk)
      rwa [BitVec.ofNat_add, BitVec.add_comm (BitVec.ofNat 16 k), ← BitVec.add_assoc] at hk'
    simp only [State.placeBytes]
    rw [ih _ hrest]
    exact Memory.read_write_of_ne v fun e => hx (BitVec.eq_of_toNat_eq e)

/-- The placed bytes stand from the address on, also across 0xFFFF. -/
theorem State.readCell_placeBytes {s : State} {a : Word} {bytes : List Byte} (hwf : s.mem.wf = true)
    (hlen : bytes.length ≤ 0x10000) {k : Nat} {v : Byte} (hv : bytes[k]? = some v) :
    (s.placeBytes a bytes).readCell (a + BitVec.ofNat 16 k) = v := by
  induction bytes generalizing s a k with
  | nil => cases hv
  | cons b rest ih =>
    simp only [List.length_cons] at hlen
    have hwf' : (s.mem.write a.toNat b).wf = true := Memory.write_wf b hwf a.isLt
    cases k with
    | zero =>
      obtain rfl : b = v := by simpa using hv
      have hne : ∀ k < rest.length, a ≠ a + 1 + BitVec.ofNat 16 k := fun k hk => by bv_omega
      rw [show a + BitVec.ofNat 16 0 = a by simp, State.placeBytes, State.readCell_placeBytes_of_ne _ _ hne]
      exact Memory.read_write_self b hwf
    | succ k =>
      have hnext : a + BitVec.ofNat 16 (k + 1) = a + 1 + BitVec.ofNat 16 k := by bv_omega
      rw [hnext]
      exact ih hwf' (by omega) hv

/-- The fetch reads the four cells from the PC on (R70). -/
theorem State.fetchBytes_getElem (s : State) {k : Nat} (h : k < s.fetchBytes.length) :
    s.fetchBytes[k] = s.readCell (s.pc + BitVec.ofNat 16 k) := by
  have hk : k < 4 := h
  simp only [State.fetchBytes]
  interval_cases k <;> simp

/-- The bytes fetched begin with those placed at the PC. -/
theorem fetchBytes_placeBytes {s : State} {bytes : List Byte} (hwf : s.mem.wf = true) (hlen : bytes.length ≤ 4) :
    ∃ rest, (s.placeBytes s.pc bytes).fetchBytes = bytes ++ rest := by
  have htake : (s.placeBytes s.pc bytes).fetchBytes.take bytes.length = bytes := by
    refine List.ext_getElem (by simpa [State.fetchBytes] using hlen) fun k hk hkb => ?_
    rw [List.getElem_take, State.fetchBytes_getElem, State.placeBytes_pc]
    exact State.readCell_placeBytes hwf (by omega) (List.getElem?_eq_getElem hkb)
  refine ⟨(s.placeBytes s.pc bytes).fetchBytes.drop bytes.length, ?_⟩
  rw [← List.take_append_drop bytes.length (s.placeBytes s.pc bytes).fetchBytes, htake, List.drop_left]

end Sys2Proof.Machine

namespace Sys2Proof.Claims

open Sys2Proof.Machine

/-- Settles O40: row by row, the opcode map has under the opcode of `encode i` the entry that makes `i` again. -/
theorem decodeOfEncode : Obligations.DecodeOfEncode := Instr.decodes

/-- Settles O41: the entry that the decoder found promises that `encode` writes the same bytes. -/
theorem encodeOfDecode : Obligations.EncodeOfDecode := fun _ _ _ h => eq_encode_of_decode h

/-- Settles O42: R80 lists no opcode of an entry, and the map has every opcode between the ranges of R80. -/
theorem recognisedOpcodes : Obligations.RecognisedOpcodes := fun op =>
  (lookupOpcode_eq_none_iff op).trans (opcodeUnrecognised_iff op.toNat op.isLt)

/-- Settles O43: the entry under the opcode says how many argument bytes there are, and only `RET` stands under 80FF. -/
theorem encodedLength : Obligations.EncodedLength := by
  intro i hi lo args h
  have hret := eq_ret_iff h
  rw [(args_length_of_encode h).1, opcodeArgBytes]
  have hlo := lo.isLt
  simp only [beq_iff_eq, hret]
  split
  · rfl
  · rw [joinBytes_toNat]
    omega

/-- Settles O44: the decoder evaluated on the words. -/
theorem decodesWords : Obligations.DecodesWords := by
  unfold Obligations.DecodesWords
  decide

/-- Settles O45: the fetched bytes begin with the encoding, which decodes to the instruction. -/
theorem fetchPlaced : Obligations.FetchPlaced := by
  intro s i hwf
  obtain ⟨rest, hfetch⟩ := fetchBytes_placeBytes (s := s) hwf (encode_length_le i)
  exact ⟨rest, by rw [hfetch, i.decodes]⟩

end Sys2Proof.Claims
end

section
/-! PROOF layer: what the model's words, bytes and flags are as the numbers in which the statements speak (R6, R35, R42,
R100, R101, R210), with HalfRegisters, StatusByteRoundTrip and EffectiveAddress. -/

namespace Sys2Proof.Machine

open Sys2Proof.Claims

/-! ## Bytes of a word, words of bytes -/

/-- A word joined from two bytes, as a number (R42). -/
theorem joinBytes_eq (hi lo : Byte) : joinBytes hi lo = wordOf (hi.toNat * 256 + lo.toNat) := by
  rw [← joinBytes_toNat, wordOf, BitVec.ofNat_toNat, BitVec.setWidth_eq]

theorem hiByte_eq (w : Word) : hiByte w = highOf w := by
  apply BitVec.eq_of_toNat_eq
  simp [hiByte, highOf, byteOf, Nat.shiftRight_eq_div_pow]

theorem loByte_eq (w : Word) : loByte w = lowOf w := by
  apply BitVec.eq_of_toNat_eq
  simp [loByte, lowOf, byteOf]

theorem toNat_hiByte (w : Word) : (hiByte w).toNat = w.toNat / 256 := by
  have := w.isLt
  simp [hiByte, Nat.shiftRight_eq_div_pow]
  omega

theorem toNat_loByte (w : Word) : (loByte w).toNat = w.toNat % 256 := by simp [loByte]

/-- The word read at an address, as a number (R43). -/
theorem State.readWord_eq (s : State) (a : Word) : s.readWord a = wordAt s a := joinBytes_eq _ _

/-! ## Sums and differences -/

theorem add_eq_ofNat {w : Nat} (x y : BitVec w) : x + y = BitVec.ofNat w (x.toNat + y.toNat) := by
  rw [← add_ofNat_eq, BitVec.ofNat_toNat, BitVec.setWidth_eq]

/-- A difference modulo 2^w (R101). -/
theorem sub_eq_ofNat {w : Nat} (x y : BitVec w) : x - y = BitVec.ofNat w (difference w x.toNat y.toNat) := by
  have hy := y.isLt
  apply BitVec.eq_of_toNat_eq
  rw [BitVec.toNat_sub, BitVec.toNat_ofNat, difference, Nat.mod_mod]
  congr 1
  omega

theorem toNat_sub_eq {w : Nat} (x y : BitVec w) : (x - y).toNat = difference w x.toNat y.toNat := by
  rw [sub_eq_ofNat, BitVec.toNat_ofNat, difference, Nat.mod_mod]

/-- The PC plus a length (R79). -/
theorem pc_add (s : State) (n : Nat) : s.pc + BitVec.ofNat 16 n = pcPlus s n := add_ofNat_eq _ _

/-! ## Flags -/

/-- `signed_n` is the value of a word in two's complement (R6). -/
theorem signed_toNat {w : Nat} (x : BitVec w) : signed w x.toNat = x.toInt := by
  rw [signed, BitVec.toInt_eq_toNat_cond, Nat.cast_pow, Nat.cast_ofNat]
  congr 1
  cases w with
  | zero => simp [BitVec.eq_nil x]
  | succ w => simp [Nat.pow_succ]; omega

theorem outOfSigned_eq (w : Nat) (t : Int) : outOfSigned w t = outside w t := by
  simp [outOfSigned, outside]

theorem Status.add_eq {w : Nat} (f : Status) (x y : BitVec w) : f.add x y = addFlags w f x.toNat y.toNat := by
  have hnz := Status.setNZ_eq f (x + y)
  rw [BitVec.toNat_add] at hnz
  rw [addFlags, ← hnz, signed_toNat, signed_toNat, ← outOfSigned_eq]
  rfl

theorem Status.sub_eq {w : Nat} (p : SubCarryPolarity) (f : Status) (x y : BitVec w) :
    f.sub p x y = subFlags w p f x.toNat y.toNat := by
  have hnz := Status.setNZ_eq f (x - y)
  rw [toNat_sub_eq] at hnz
  unfold subFlags
  rw [← hnz, signed_toNat, signed_toNat, ← outOfSigned_eq]
  cases p <;> simp [Status.sub, Status.setNZ, subCarry]

theorem Status.cmp_eq {w : Nat} (f : Status) (x y : BitVec w) : f.cmp x y = cmpFlags w f x.toNat y.toNat := by
  rw [Status.cmp, cmpFlags, BitVec.msb_eq_decide, toNat_sub_eq, beq_eq_decide_toNat]

/-! ## SR as a byte (R17, R22) -/

theorem Status.toByte_eq (f : Status) : f.toByte = statusByte f := by
  obtain ⟨n, o, i, d, s, z, c⟩ := f
  revert n o i d s z c
  decide

/-- The flags come back from their byte. -/
theorem Status.ofByte_toByte (f : Status) : Status.ofByte f.toByte = f := by
  obtain ⟨n, o, i, d, s, z, c⟩ := f
  revert n o i d s z c
  decide

/-- A load protects S (R150). -/
theorem Status.load_eq (f : Status) (v : Byte) : f.load v = statusFrom f v := by
  unfold Status.load statusFrom
  cases f.s <;> rfl

theorem Status.load_toByte (f g : Status) : f.load g.toByte = { g with s := f.s && g.s } := by
  unfold Status.load
  rw [Status.ofByte_toByte]
  cases f.s <;> rfl

/-! ## Effective addresses -/

/-- An address extended from a byte. -/
theorem setWidth_eq_wordOf (z : Byte) : z.setWidth 16 = wordOf z.toNat := (BitVec.ofNat_toNat 16 z).symm

/-- The index added as a signed number (R53). -/
theorem toNat_add_signed (x y : Word) :
    ((x + y).toNat : Int) = ((x.toNat : Int) + signed 16 y.toNat) % 65536 := by
  have hx := x.isLt
  have hy := y.isLt
  rw [BitVec.toNat_add, signed]
  split <;> omega

end Sys2Proof.Machine

namespace Sys2Proof.Claims

open Sys2Proof.Machine

/-- Settles O13: each mode is a sum of words, which is the word of the sum of their numbers. -/
theorem effectiveAddress : Obligations.EffectiveAddress := by
  intro s z w
  refine ⟨setWidth_eq_wordOf z, ?zpX, rfl, add_eq_ofNat w s.i, toNat_add_signed w s.i, State.readWord_eq s w, ?indX⟩
  case zpX =>
    have hz : (z.setWidth 16).toNat = z.toNat := BitVec.toNat_setWidth_of_le (by decide)
    rw [State.ea, add_eq_ofNat, hz]
    rfl
  case indX => rw [State.ea, State.readWord, joinBytes_eq, wordOf, BitVec.add_comm, add_ofNat_eq, Nat.add_comm]; rfl

/-- Settles O46: a word joined from two bytes is the word of their numbers, and the other byte is its half. -/
theorem halfRegisters : Obligations.HalfRegisters := by
  intro s v
  refine ⟨?_, ?_, ?_, ?_, hiByte_eq s.a, loByte_eq s.a, hiByte_eq s.b, loByte_eq s.b⟩ <;>
    simp only [State.set8, joinBytes_eq, toNat_loByte, toNat_hiByte]

/-- Settles O48: the bits stand where the sum puts them, and a load of the byte reads them back. -/
theorem statusByteRoundTrip : Obligations.StatusByteRoundTrip := ⟨Status.toByte_eq, Status.load_toByte⟩

end Sys2Proof.Claims
end

section
/-! PROOF layer: the operand of an instruction as one operation on its source (R56-R58), the whole state that a register
write leaves at the end of an instruction, and the privileged instructions in user mode (StarredTraps). -/

namespace Sys2Proof.Machine

open Sys2Proof.Claims

/-! ## The checks where they fail -/

/-- `CheckInt` takes IAOOR-INR, with AR written (R56). -/
theorem checkInt_of_not_internalOk {s : State} {a : Word} (rest : State → Out) (h : ¬ s.internalOk a) :
    checkInt a s rest = .next (iaoor s a) := by
  unfold checkInt State.inInternal
  exact if_neg (by simpa using h)

/-- `CheckExt` lets the rest run, with AR written (R57). -/
theorem checkExt_of_externalOk {s : State} {a : Word} (rest : State → Out) (h : s.externalOk a) :
    checkExt a s rest = rest (s.withAr a) := by
  unfold checkExt State.inExternal
  exact if_pos (by simpa using h)

/-- `CheckExt` takes EAOOR-INR, with AR written (R57). -/
theorem checkExt_of_not_externalOk {s : State} {a : Word} (rest : State → Out) (h : ¬ s.externalOk a) :
    checkExt a s rest = .next (eaoor s a) := by
  unfold checkExt State.inExternal
  exact if_neg (by simpa using h)

/-- `CheckSP` takes SPOOR-INR (R61). -/
theorem checkSp_of_not_stackOk {s : State} {p : Word} (rest : Out) (h : ¬ s.stackOk p) :
    checkSp p s rest = .next (raised s .spoor) := by
  unfold checkSp State.inInternal
  exact if_neg (by simpa using h)

/-! ## The operand of a source -/

/-- A word source's operand, checked, handed to the rest together with the instruction's length. -/
def takeWord (y : Source) (rest : Word → Nat → State → Out) (s : State) : Out :=
  match y with
  | .reg r => rest (s.get16 r) 2 s
  | .imm v => rest v 4 s
  | .mem m => operand16 m s fun v t => rest v m.length t

/-- A byte source's operand, checked, handed to the rest together with the instruction's length. -/
def takeByte (y : ByteSource) (rest : Byte → Nat → State → Out) (s : State) : Out :=
  match y with
  | .reg r => rest (s.get8 r) 2 s
  | .imm v => rest v 3 s
  | .mem m => operand8 m s fun v t => rest v m.length t

theorem takeWord_of_ok {s : State} {y : Source} (rest : Word → Nat → State → Out) (h : y.ok s) :
    takeWord y rest s = rest (y.value s) y.length (s.withAr (y.ar s)) := by
  cases y with
  | reg r => rfl
  | imm v => rfl
  | mem m =>
    rw [Source.value, ← State.readWord_eq]
    exact checkInt_of_internalOk _ h

theorem takeWord_of_not_ok {s : State} {y : Source} (rest : Word → Nat → State → Out) (h : ¬ y.ok s) :
    takeWord y rest s = .next (iaoor s (y.ar s)) := by
  cases y with
  | reg r => exact absurd trivial h
  | imm v => exact absurd trivial h
  | mem m => exact checkInt_of_not_internalOk _ h

theorem takeByte_of_ok {s : State} {y : ByteSource} (rest : Byte → Nat → State → Out) (h : y.ok s) :
    takeByte y rest s = rest (y.value s) y.length (s.withAr (y.ar s)) := by
  cases y with
  | reg r => rfl
  | imm v => rfl
  | mem m => exact checkInt_of_internalOk _ h

theorem takeByte_of_not_ok {s : State} {y : ByteSource} (rest : Byte → Nat → State → Out) (h : ¬ y.ok s) :
    takeByte y rest s = .next (iaoor s (y.ar s)) := by
  cases y with
  | reg r => exact absurd trivial h
  | imm v => exact absurd trivial h
  | mem m => exact checkInt_of_not_internalOk _ h

/-! ## The end of an instruction that writes a register -/

@[simp] theorem State.get16_withAr (s : State) (x : Word) (r : Reg16) : (s.withAr x).get16 r = s.get16 r := by
  cases r <;> rfl

/-- An instruction's end writes the PC (R79). -/
theorem finish_pcPlus (len : Nat) (s : State) : finish len s = .next { s with pc := pcPlus s len } := by
  rw [finish_eq, pc_add]
  rfl

/-- The end of an instruction that writes a word register and SR. -/
theorem finish_set16 (r : Reg16) (v : Word) (f : Status) (x : Word) (len : Nat) (s : State) :
    finish len (((s.withAr x).set16 r v).withSr f) =
      .next { s.set16 r v with sr := f, ar := x, pc := pcPlus s len } := by
  cases r <;> rw [finish_pcPlus] <;> rfl

/-- The end of an instruction that writes a half register or J, and SR. -/
theorem finish_set8 (r : Reg8) (v : Byte) (f : Status) (x : Word) (len : Nat) (s : State) :
    finish len (((s.withAr x).set8 r v).withSr f) =
      .next { s.set8 r v with sr := f, ar := x, pc := pcPlus s len } := by
  cases r <;> rw [finish_pcPlus] <;> rfl

/-- The same, of an instruction that leaves AR. -/
theorem finish_set16_keepAr (r : Reg16) (v : Word) (f : Status) (len : Nat) (s : State) :
    finish len ((s.set16 r v).withSr f) = .next { s.set16 r v with sr := f, pc := pcPlus s len } := by
  cases r <;> rw [finish_pcPlus] <;> rfl

/-- The same, of an instruction that leaves AR. -/
theorem finish_set8_keepAr (r : Reg8) (v : Byte) (f : Status) (len : Nat) (s : State) :
    finish len ((s.set8 r v).withSr f) = .next { s.set8 r v with sr := f, pc := pcPlus s len } := by
  cases r <;> rw [finish_pcPlus] <;> rfl

/-! ## The privileged instructions in user mode -/

/-- Every starred instruction begins with `RequireS` (R321). -/
theorem exec_of_starred {i : Instr} (s : State) (h : starred i = true) : ∃ rest, exec i s = requireS s rest := by
  cases i with
  | cld | cli | cls | sed | sei | ses | rest | tadr | taemh | taeml | taimh | taiml => exact ⟨_, rfl⟩
  | lddr form | lemh form | leml form | limh form | liml form => exact ⟨_, rfl⟩
  | kill form => cases form with
    | _ => exact ⟨_, rfl⟩
  | _ => cases h

end Sys2Proof.Machine

namespace Sys2Proof.Claims

open Sys2Proof.Machine

/-- Settles O30: in user mode `RequireS`, with which each of them begins, issues the NMI. -/
theorem starredTraps : Obligations.StarredTraps := by
  intro s i hi hs
  obtain ⟨rest, hexec⟩ := exec_of_starred s hi
  rw [hexec, requireS_of_user rest hs]

end Sys2Proof.Claims
end

section
/-! PROOF of AdditionResult, SubtractionResult, LogicResult and ShiftResult (R100-R132). Each mnemonic hands the operand of
its source to one shared operation, which writes the register and the flags. -/

namespace Sys2Proof.Machine

open Sys2Proof.Claims

/-! ## Addition -/

theorem exec_of_addWord {i : Instr} {r : Reg16} {y : Source} (s : State) (h : addWord i = some (r, y)) :
    exec i s = takeWord y (add16 r) s := by
  cases i with
  | ada form | adb form => cases form with
    | _ => cases h <;> rfl
  | _ => cases h

theorem exec_of_addByte {i : Instr} {r : Reg8} {v : Byte} (s : State) (h : addByte i = some (r, v)) :
    exec i s = add8 r v 3 s := by
  cases i with
  | ada form | adb form => cases form with
    | _ => cases h <;> rfl
  | _ => cases h

/-- `Add_16` into a register (R100), AR being the operand's. -/
theorem add16_eq (r : Reg16) (v : Word) (x : Word) (len : Nat) (s : State) :
    add16 r v len (s.withAr x) = .next { s.set16 r (wordOf ((s.get16 r).toNat + v.toNat)) with
      sr := addFlags 16 s.sr (s.get16 r).toNat v.toNat, ar := x, pc := pcPlus s len } := by
  unfold add16
  rw [State.get16_withAr, finish_set16, Status.add_eq, add_eq_ofNat]
  rfl

/-- `Add_8` into a half register (R100). -/
theorem add8_eq (r : Reg8) (v : Byte) (len : Nat) (s : State) :
    add8 r v len s = .next { s.set8 r (byteOf ((s.get8 r).toNat + v.toNat)) with
      sr := addFlags 8 s.sr (s.get8 r).toNat v.toNat, pc := pcPlus s len } := by
  unfold add8
  rw [finish_set8_keepAr, Status.add_eq, add_eq_ofNat]
  rfl

/-! ## Subtraction -/

theorem exec_of_subWord {i : Instr} {r : Reg16} {y : Source} (s : State) (h : subWord i = some (r, y)) :
    exec i s = takeWord y (sub16 r) s := by
  cases i with
  | sua form | sub form => cases form with
    | _ => cases h <;> rfl
  | _ => cases h

theorem exec_of_subByte {i : Instr} {r : Reg8} {v : Byte} (s : State) (h : subByte i = some (r, v)) :
    exec i s = sub8 r v 3 s := by
  cases i with
  | sua form | sub form => cases form with
    | _ => cases h <;> rfl
  | _ => cases h

/-- `Sub_16` into a register (R101), AR being the operand's. -/
theorem sub16_eq (r : Reg16) (v : Word) (x : Word) (len : Nat) (s : State) :
    sub16 r v len (s.withAr x) = .next { s.set16 r (wordOf (difference 16 (s.get16 r).toNat v.toNat)) with
      sr := subFlags 16 s.cfg.subCarryPolarity s.sr (s.get16 r).toNat v.toNat, ar := x, pc := pcPlus s len } := by
  unfold sub16
  rw [State.get16_withAr, finish_set16, Status.sub_eq, sub_eq_ofNat]
  rfl

/-- `Sub_8` into a half register (R101). -/
theorem sub8_eq (r : Reg8) (v : Byte) (len : Nat) (s : State) :
    sub8 r v len s = .next { s.set8 r (byteOf (difference 8 (s.get8 r).toNat v.toNat)) with
      sr := subFlags 8 s.cfg.subCarryPolarity s.sr (s.get8 r).toNat v.toNat, pc := pcPlus s len } := by
  unfold sub8
  rw [finish_set8_keepAr, Status.sub_eq, sub_eq_ofNat]
  rfl

/-! ## Logic -/

/-- The model's operation of one of the three bit tables of R120. -/
def logicOpOf : Bitwise → LogicOp
  | .and => .and
  | .or => .or
  | .xor => .xor

/-- The result has in each bit the table's value (R120). -/
theorem getLsbD_logicResult {w : Nat} (op : Bitwise) (x y : BitVec w) (k : Nat) :
    (logicResult (logicOpOf op) x y).getLsbD k = op.bit (x.getLsbD k) (y.getLsbD k) := by
  cases op with
  | and => exact BitVec.getLsbD_and
  | or => exact BitVec.getLsbD_or
  | xor => exact BitVec.getLsbD_xor

theorem exec_of_logicWord {i : Instr} {op : Bitwise} {r : Reg16} {y : Source} (s : State)
    (h : logicWord i = some (op, r, y)) : exec i s = takeWord y (logic16 (logicOpOf op) r) s := by
  cases i with
  | ana form | anb form | ora form | orb form | xora form | xorb form => cases form with
    | _ => cases h <;> rfl
  | _ => cases h

theorem exec_of_logicByte {i : Instr} {op : Bitwise} {r : Reg8} {v : Byte} (s : State)
    (h : logicByte i = some (op, r, v)) : exec i s = logic8 (logicOpOf op) r v 3 s := by
  cases i with
  | ana form | anb form | ora form | orb form | xora form | xorb form => cases form with
    | _ => cases h <;> rfl
  | _ => cases h

/-- A logical result into a register (R120), AR being the operand's. -/
theorem logic16_eq (op : LogicOp) (r : Reg16) (v : Word) (x : Word) (len : Nat) (s : State) :
    logic16 op r v len (s.withAr x) = .next { s.set16 r (logicResult op (s.get16 r) v) with
      sr := nzFlags 16 s.sr (logicResult op (s.get16 r) v).toNat, ar := x, pc := pcPlus s len } := by
  unfold logic16
  rw [State.get16_withAr, finish_set16, Status.setNZ_eq]
  rfl

/-- A logical result into a half register (R120). -/
theorem logic8_eq (op : LogicOp) (r : Reg8) (v : Byte) (len : Nat) (s : State) :
    logic8 op r v len s = .next { s.set8 r (logicResult op (s.get8 r) v) with
      sr := nzFlags 8 s.sr (logicResult op (s.get8 r) v).toNat, pc := pcPlus s len } := by
  unfold logic8
  rw [finish_set8_keepAr, Status.setNZ_eq]

/-! ## Shifts -/

/-- One place to the left doubles modulo 2^w. -/
theorem shiftLeft_one_eq {w : Nat} (x : BitVec w) : x <<< 1 = BitVec.ofNat w (x.toNat * 2) := by
  apply BitVec.eq_of_toNat_eq
  simp [Nat.shiftLeft_eq]

/-- One place to the right halves. -/
theorem shiftRight_one_eq {w : Nat} (x : BitVec w) : x >>> 1 = BitVec.ofNat w (x.toNat / 2) := by
  apply BitVec.eq_of_toNat_eq
  have hx := x.isLt
  rw [BitVec.toNat_ushiftRight, Nat.shiftRight_eq_div_pow, BitVec.toNat_ofNat, Nat.mod_eq_of_lt (by omega)]

/-- C takes the top bit, Z says that the doubled word is 0 (R131). -/
theorem Status.shl_eq (f : Status) (x : Word) :
    f.shl x = { f with c := decide (32768 ≤ x.toNat), z := decide (x.toNat * 2 % 65536 = 0) } := by
  rw [Status.shl, BitVec.msb_eq_decide, beq_eq_decide_toNat, shiftLeft_one_eq, BitVec.toNat_ofNat]
  rfl

/-- C takes bit 0, Z says that the half is 0 (R132). -/
theorem Status.shr_eq (f : Status) (x : Word) :
    f.shr x = { f with c := decide (x.toNat % 2 = 1), z := decide (x.toNat / 2 = 0) } := by
  have hx := x.isLt
  have hbit : x.getLsbD 0 = decide (x.toNat % 2 = 1) := Nat.testBit_zero x.toNat
  rw [Status.shr, beq_eq_decide_toNat, shiftRight_one_eq, BitVec.toNat_ofNat, Nat.mod_eq_of_lt (by omega), hbit]
  rfl

theorem shiftReg_eq (f : ShiftForm) : shiftReg f = shifted f := by
  cases f <;> rfl

end Sys2Proof.Machine

namespace Sys2Proof.Claims

open Sys2Proof.Machine

/-- Settles O1: `ADA` and `ADB` hand the operand to `Add_n`, whose sum and flags are those of the numbers. -/
theorem additionResult : Obligations.AdditionResult := by
  refine ⟨fun s i r y h hok => ?_, fun s i r y h hok => ?_, fun s i r v h => ?_⟩
  · rw [exec_of_addWord s h, takeWord_of_ok _ hok, add16_eq]
  · rw [exec_of_addWord s h, takeWord_of_not_ok _ hok]
  · rw [exec_of_addByte s h, add8_eq]

/-- Settles O2: `SUA` and `SUB` hand the operand to `Sub_n`, whose difference and flags are those of the numbers. -/
theorem subtractionResult : Obligations.SubtractionResult := by
  refine ⟨fun s i r y h hok => ?_, fun s i r y h hok => ?_, fun s i r v h => ?_⟩
  · rw [exec_of_subWord s h, takeWord_of_ok _ hok, sub16_eq]
  · rw [exec_of_subWord s h, takeWord_of_not_ok _ hok]
  · rw [exec_of_subByte s h, sub8_eq]

/-- Settles O4: the result is `logicResult`, whose bits are those of R120's tables. -/
theorem logicResult : Obligations.LogicResult := by
  refine ⟨fun s i op r y h hok => ?_, fun s i op r y h hok => ?_, fun s i op r v h => ?_⟩
  · refine ⟨_, fun k _ => getLsbD_logicResult op (s.get16 r) (y.value s) k, ?_⟩
    rw [exec_of_logicWord s h, takeWord_of_ok _ hok, logic16_eq]
  · rw [exec_of_logicWord s h, takeWord_of_not_ok _ hok]
  · refine ⟨_, fun k _ => getLsbD_logicResult op (s.get8 r) v k, ?_⟩
    rw [exec_of_logicByte s h, logic8_eq]

/-- Settles O5: a shift by one place doubles or halves the number. -/
theorem shiftResult : Obligations.ShiftResult := by
  intro s f
  rw [← shiftReg_eq, ← Status.shl_eq, ← Status.shr_eq]
  constructor
  · show shiftLeft (shiftReg f) s = _
    rw [shiftLeft, finish_set16_keepAr, shiftLeft_one_eq]
    rfl
  · show shiftRight (shiftReg f) s = _
    rw [shiftRight, finish_set16_keepAr, shiftRight_one_eq]
    rfl

end Sys2Proof.Claims
end

section
/-! PROOF of LoadWords, LoadBytes, LoadStatus, TransferResult, CompareFlags (R140, R150, R160, R210): the operand of the
source, or a register, is handed to one shared operation. -/

namespace Sys2Proof.Machine

open Sys2Proof.Claims

/-! ## Loads -/

/-- `Load16` takes the operand of its source. -/
theorem loadWord_eq {M : Type} (toMem : M → MemMode) (r : Reg16) (form : Src16 M) (s : State) :
    loadWord r (form.toMem toMem) s = takeWord (src16 toMem form) (putWord r) s := by
  cases form <;> rfl

/-- `Load8` takes the operand of its source. -/
theorem loadByte_eq {M : Type} (toMem : M → MemMode) (r : Reg8) (form : Src8 M) (s : State) :
    loadByte r (form.toMem toMem) s = takeByte (src8 toMem form) (putByte r) s := by
  cases form <;> rfl

/-- A word load that `RequireS` does not stop takes the operand of its source (R141-R155). -/
theorem exec_of_loadsWord {s : State} {i : Instr} {r : Reg16} {y : Source} (h : loadsWord i = some (r, y))
    (hs : starred i = true → s.sr.s = true) : exec i s = takeWord y (putWord r) s := by
  cases i with
  | lda form | ldb form | ldi form | ldsp form => cases h; exact loadWord_eq _ _ form s
  | lddr form | lemh form | leml form | limh form | liml form =>
    cases h
    exact (requireS_of_system _ (hs rfl)).trans (loadWord_eq _ _ form s)
  | _ => cases h

theorem exec_of_loadsByte {i : Instr} {r : Reg8} {y : ByteSource} (s : State) (h : loadsByte i = some (r, y)) :
    exec i s = takeByte y (putByte r) s := by
  cases i with
  | ldah form | ldal form | ldbh form | ldbl form | ldj form => cases h; exact loadByte_eq _ _ form s
  | _ => cases h

theorem exec_ldsr (form : Src8 AbsIndMode) (s : State) :
    exec (.ldsr form) s = takeByte (src8 AbsIndMode.toMem form) putStatus s := by
  cases form <;> rfl

/-- A word into a register with its N and Z (R140), AR being the operand's. -/
theorem putWord_eq (r : Reg16) (v x : Word) (len : Nat) (s : State) :
    putWord r v len (s.withAr x) =
      .next { s.set16 r v with sr := nzFlags 16 s.sr v.toNat, ar := x, pc := pcPlus s len } := by
  unfold putWord
  rw [finish_set16, Status.setNZ_eq]
  rfl

/-- A byte into a half register or J with its N and Z (R140), AR being the operand's. -/
theorem putByte_eq (r : Reg8) (v : Byte) (x : Word) (len : Nat) (s : State) :
    putByte r v len (s.withAr x) =
      .next { s.set8 r v with sr := nzFlags 8 s.sr v.toNat, ar := x, pc := pcPlus s len } := by
  unfold putByte
  rw [finish_set8, Status.setNZ_eq]
  rfl

/-- A byte into SR (R150), AR being the operand's. -/
theorem putStatus_eq (v : Byte) (x : Word) (len : Nat) (s : State) :
    putStatus v len (s.withAr x) = .next { s with sr := statusFrom s.sr v, ar := x, pc := pcPlus s len } := by
  unfold putStatus
  rw [finish_pcPlus, Status.load_eq]
  rfl

/-! ## Transfers -/

/-- A word transfer that `RequireS` does not stop (R160). -/
theorem exec_of_movesWord {s : State} {i : Instr} {d r : Reg16} (h : movesWord i = some (d, r))
    (hs : starred i = true → s.sr.s = true) : exec i s = transfer16 d r s := by
  cases i with
  | tab | tai | tba | tbi | tisp | tspb => cases h; rfl
  | tadr | taiml | taimh | taeml | taemh => cases h; exact requireS_of_system _ (hs rfl)
  | _ => cases h

theorem exec_of_movesByte {i : Instr} {d r : Reg8} (s : State) (h : movesByte i = some (d, r)) :
    exec i s = transfer8 d r s := by
  cases i with
  | tabh | tahj | tabl | tbah | tbhj | tbal => cases h; rfl
  | _ => cases h

theorem transfer16_eq (d r : Reg16) (s : State) :
    transfer16 d r s =
      .next { s.set16 d (s.get16 r) with sr := nzFlags 16 s.sr (s.get16 r).toNat, pc := pcPlus s 2 } := by
  unfold transfer16
  rw [finish_set16_keepAr, Status.setNZ_eq]

theorem transfer8_eq (d r : Reg8) (s : State) :
    transfer8 d r s =
      .next { s.set8 d (s.get8 r) with sr := nzFlags 8 s.sr (s.get8 r).toNat, pc := pcPlus s 2 } := by
  unfold transfer8
  rw [finish_set8_keepAr, Status.setNZ_eq]

/-! ## Compares -/

theorem exec_of_comparesWord {i : Instr} {r : Reg16} {y : Source} (s : State) (h : comparesWord i = some (r, y)) :
    exec i s = takeWord y (compare16 (s.get16 r)) s := by
  cases i with
  | cmpa form | cmpb form => cases h; cases form <;> rfl
  | cmpi form => cases h; cases form <;> rfl
  | _ => cases h

theorem exec_of_comparesByte {i : Instr} {r : Reg8} {y : ByteSource} (s : State) (h : comparesByte i = some (r, y)) :
    exec i s = takeByte y (compare8 (s.get8 r)) s := by
  cases i with
  | cmah form | cmbh form => cases h; cases form <;> rfl
  | _ => cases h

/-- `Cmp_16` (R210), AR being the operand's. -/
theorem compare16_eq (u v x : Word) (len : Nat) (s : State) :
    compare16 u v len (s.withAr x) =
      .next { s with sr := cmpFlags 16 s.sr u.toNat v.toNat, ar := x, pc := pcPlus s len } := by
  unfold compare16
  rw [finish_pcPlus, Status.cmp_eq]
  rfl

/-- `Cmp_8` (R210), AR being the operand's. -/
theorem compare8_eq (u v : Byte) (x : Word) (len : Nat) (s : State) :
    compare8 u v len (s.withAr x) =
      .next { s with sr := cmpFlags 8 s.sr u.toNat v.toNat, ar := x, pc := pcPlus s len } := by
  unfold compare8
  rw [finish_pcPlus, Status.cmp_eq]
  rfl

end Sys2Proof.Machine

namespace Sys2Proof.Claims

open Sys2Proof.Machine

/-- Settles O6: each word load hands its operand to `putWord`; a starred one has passed `RequireS`. -/
theorem loadWords : Obligations.LoadWords := by
  refine ⟨fun s i r y h hs hok => ?_, fun s i r y h hs hok => ?_⟩
  · rw [exec_of_loadsWord h hs, takeWord_of_ok _ hok, putWord_eq]
  · rw [exec_of_loadsWord h (by simp [hs]), takeWord_of_not_ok _ hok]

/-- Settles O7: each byte load hands its operand to `putByte`. -/
theorem loadBytes : Obligations.LoadBytes := by
  refine ⟨fun s i r y h hok => ?_, fun s i r y h hok => ?_⟩
  · rw [exec_of_loadsByte s h, takeByte_of_ok _ hok, putByte_eq]
  · rw [exec_of_loadsByte s h, takeByte_of_not_ok _ hok]

/-- Settles O8: `LDSR` hands its operand to `putStatus`. -/
theorem loadStatus : Obligations.LoadStatus := by
  refine fun s f => ⟨fun hok => ?_, fun hok => ?_⟩
  · rw [exec_ldsr, takeByte_of_ok _ hok, putStatus_eq]
  · rw [exec_ldsr, takeByte_of_not_ok _ hok]

/-- Settles O9: the transfers copy register to register; the starred ones begin with `RequireS`. -/
theorem transferResult : Obligations.TransferResult := by
  refine ⟨fun s i d r h hs => ?_, fun s i d r h => ?_, fun s i d r _ hi hs => starredTraps s i hi hs⟩
  · rw [exec_of_movesWord h hs, transfer16_eq]
  · rw [exec_of_movesByte s h, transfer8_eq]

/-- Settles O22: the compares hand their operand to `Cmp_n`. -/
theorem compareFlags : Obligations.CompareFlags := by
  refine ⟨fun s i r y h hok => ?_, fun s i r y h hok => ?_, fun s i r y h hok => ?_, fun s i r y h hok => ?_⟩
  · rw [exec_of_comparesWord s h, takeWord_of_ok _ hok, compare16_eq]
  · rw [exec_of_comparesByte s h, takeByte_of_ok _ hok, compare8_eq]
  · rw [exec_of_comparesWord s h, takeWord_of_not_ok _ hok]
  · rw [exec_of_comparesByte s h, takeByte_of_not_ok _ hok]

end Sys2Proof.Claims
end

section
/-! PROOF of ConditionalJumps, JumpTargets, OtherInstructions, KillStops, SystemCall, ReadResult and WriteResult (R230-R261).
-/

namespace Sys2Proof.Machine

open Sys2Proof.Claims

/-! ## Jumps -/

/-- The target of a relative jump by the two ranges of its displacement (R230). -/
theorem State.relTarget_eq (s : State) (d : Byte) : s.relTarget d = relative s d := by
  have hd := d.isLt
  have hpc := s.pc.isLt
  have hext : (signExtend16 d).toNat = if d.toNat < 128 then d.toNat else 65536 + d.toNat - 256 := by
    rw [signExtend16, BitVec.toNat_signExtend, BitVec.toNat_setWidth_of_le (by decide), BitVec.msb_eq_decide]
    simp only [decide_eq_true_eq]
    split <;> split <;> omega
  rw [State.relTarget, add_eq_ofNat, hext, relative]
  split
  · rfl
  · rw [wordOf, show s.pc.toNat + 65536 + d.toNat - 256 = s.pc.toNat + (65536 + d.toNat - 256) by omega]

theorem State.jumpTarget_eq (s : State) (f : JumpForm) : s.jumpTarget f = jumpGoal s f := by
  cases f with
  | relJ => exact s.relTarget_eq _
  | rel v => exact s.relTarget_eq _
  | abs v => rfl

theorem State.jmpTarget_eq (s : State) (f : JmpForm) : s.jmpTarget f = jmpGoal s f := by
  cases f with
  | relJ => exact s.relTarget_eq _
  | rel v => exact s.relTarget_eq _
  | ind v => exact s.readWord_eq v
  | accumulator | base | index | abs v => rfl

theorem jumpLength_eq (f : JumpForm) : jumpLength f = jumpSize f := by
  cases f <;> rfl

/-- A conditional jump writes the PC only (R230-R240). -/
theorem jumpIf_eq (c : Bool) (f : JumpForm) (s : State) :
    jumpIf c f s = .next { s with pc := if c = true then jumpGoal s f else pcPlus s (jumpSize f) } := by
  unfold jumpIf
  split
  · rw [State.jumpTarget_eq]
    rfl
  · rw [finish_pcPlus, jumpLength_eq]

theorem exec_of_jumpsWhen {s : State} {i : Instr} {c : Bool} {f : JumpForm} (h : jumpsWhen s.sr i = some (c, f)) :
    exec i s = jumpIf c f s := by
  cases i with
  | jcc g | jcs g | jeq g | jnc g | jne g | jns g | joc g | jos g =>
    cases h
    simp [exec, execJcc, execJcs, execJeq, execJnc, execJne, execJns, execJoc, execJos]
  | _ => cases h

/-! ## The external / IO space -/

theorem State.readAddress_eq (s : State) (f : ReadForm) : s.readAddress f = readFrom s f := by
  cases f with
  | zp v => exact setWidth_eq_wordOf v
  | zpX v =>
    have hv : (v.setWidth 16).toNat = v.toNat := BitVec.toNat_setWidth_of_le (by decide)
    rw [State.readAddress, add_eq_ofNat, hv]
    rfl
  | absX v => exact add_eq_ofNat v s.i
  | accumulator | base | abs v => rfl

theorem State.wrteAddress_eq (s : State) (f : WrteForm) : s.wrteAddress f = writeTo s f := by
  cases f with
  | abs v => rfl
  | absX v => exact add_eq_ofNat v s.i

theorem readTarget_eq (f : ReadForm) : readTarget f = readInto f := by
  cases f <;> rfl

theorem readLength_eq (f : ReadForm) : readLength f = readSize f := by
  cases f <;> rfl

theorem exec_read (f : ReadForm) (s : State) :
    exec (.read f) s = readExternal (readFrom s f) (readInto f) (readSize f) s := by
  rw [← State.readAddress_eq, ← readTarget_eq, ← readLength_eq]
  rfl

/-- An external read whose check passes (R65, R259). -/
theorem readExternal_of_ok {s : State} {a : Word} (r : Reg8) (len : Nat) (h : s.externalOk a) :
    readExternal a r len s = .next { s.set8 r (s.ioAnswer a) with
      sr := nzFlags 8 s.sr (s.ioAnswer a).toNat
      ar := a
      ioAnswers := s.ioAnswers.tail
      ioTrace := s.ioTrace ++ [.read a (s.ioAnswer a)]
      pc := pcPlus s len } := by
  unfold readExternal
  rw [checkExt_of_externalOk _ h, finish_set8_keepAr, Status.setNZ_eq]
  cases r <;> rfl

/-- A scripted answer is the one given (log 10). -/
theorem State.ioAnswer_of_cons {s : State} {w : Byte} {rest : List Byte} (a : Word) (h : s.ioAnswers = w :: rest) :
    s.ioAnswer a = w := by
  simp [State.ioAnswer, h]

/-- An external write whose check passes (R65). -/
theorem writeExternal_of_ok {s : State} {a : Word} (v : Byte) (len : Nat) (x : Word) (h : s.externalOk a) :
    writeExternal a v len (s.withAr x) =
      .next { s with ar := a, ioTrace := s.ioTrace ++ [.write a v], pc := pcPlus s len } := by
  unfold writeExternal
  rw [checkExt_of_externalOk (s := s.withAr x) _ h, finish_pcPlus]
  rfl

/-- `WRTE` and `WRTI` take the datum of their source and write it (R260, R261). -/
theorem exec_of_writesOut {s : State} {i : Instr} {a : Word} {y : ByteSource} (h : writesOut s i = some (a, y)) :
    exec i s = takeByte y (fun v _ t => writeExternal a v (writeSize i y) t) s := by
  cases i with
  | wrte f =>
    cases h
    rw [← State.wrteAddress_eq]
    rfl
  | wrti f => cases h; cases f <;> rfl
  | _ => cases h

end Sys2Proof.Machine

namespace Sys2Proof.Claims

open Sys2Proof.Machine

/-- Settles O23: each mnemonic tests its flag, and a conditional jump writes the PC only. -/
theorem conditionalJumps : Obligations.ConditionalJumps := fun s i c f h => by
  rw [exec_of_jumpsWhen h, jumpIf_eq]

/-- Settles O24: `JMP` puts its target into the PC. -/
theorem jumpTargets : Obligations.JumpTargets := fun s f => by
  rw [← State.jmpTarget_eq]
  rfl

/-- Settles O25: `CPUID` joins the two constants, `MSB` takes the top bit, a `NOP` ends with its length. -/
theorem otherInstructions : Obligations.OtherInstructions := by
  refine fun s => ⟨?cpuid, ?msbA, ?msbB, fun f => ?nop⟩
  case cpuid =>
    show finish 2 ((s.set8 .al Config.isaVersion).set8 .ah Config.variant) = _
    rw [finish_pcPlus]
    simp only [State.set8, loByte_joinBytes]
    rfl
  case msbA =>
    show finish 2 (s.withSr { s.sr with z := s.a.msb }) = _
    rw [finish_pcPlus, BitVec.msb_eq_decide]
    rfl
  case msbB =>
    show finish 2 (s.withSr { s.sr with z := s.b.msb }) = _
    rw [finish_pcPlus, BitVec.msb_eq_decide]
    rfl
  case nop =>
    show finish (nopLength f) s = _
    rw [finish_pcPlus]
    cases f <;> rfl

/-- Settles O26: behind `RequireS` each `KILL` stops the processor. -/
theorem killStops : Obligations.KillStops := fun s f hs => by
  cases f <;> exact requireS_of_system _ hs

/-- Settles O27: `SYS` raises its interrupt. -/
theorem systemCall : Obligations.SystemCall := raise_eq .sys

/-- Settles O28: `READ` records one event with the answer of the environment. -/
theorem readResult : Obligations.ReadResult := by
  refine fun s f => ⟨fun hok => ?_, fun hok => ?_⟩
  · exact ⟨s.ioAnswer (readFrom s f), fun _ _ => State.ioAnswer_of_cons _,
      (exec_read f s).trans (readExternal_of_ok _ _ hok)⟩
  · exact (exec_read f s).trans (checkExt_of_not_externalOk _ hok)

/-- Settles O29: the datum is taken, with its check, before the external address is checked. -/
theorem writeResult : Obligations.WriteResult := by
  refine fun s i a y h => ⟨fun hy ha => ?_, fun hy => ?_, fun hy ha => ?_⟩ <;> rw [exec_of_writesOut h]
  · rw [takeByte_of_ok _ hy, writeExternal_of_ok _ _ _ ha]
  · rw [takeByte_of_not_ok _ hy]
  · rw [takeByte_of_ok _ hy]
    exact checkExt_of_not_externalOk (s := s.withAr (y.ar s)) _ ha

end Sys2Proof.Claims
end

section
/-! PROOF layer: a run of bytes stored from an address on (R43, R60), to which the word stores, the pushes and the save area
of an interrupt come down; with LatestWrite and CanonicalMemory. -/

namespace Sys2Proof.Machine

open Sys2Proof.Claims

/-! ## A run of bytes stored -/

/-- The bytes stored one after the other from `a` on, addresses modulo 2^16; a byte for the ROM is dropped. -/
def State.storeBytes (s : State) (a : Word) : List Byte → State
  | [] => s
  | v :: rest => State.storeBytes (s.writeCell a v) (a + 1) rest

/-- A word store is the run of its two bytes (R43). -/
theorem State.writeWord_eq_storeBytes (s : State) (a v : Word) :
    s.writeWord a v = s.storeBytes a [highOf v, lowOf v] := by
  rw [← hiByte_eq, ← loByte_eq]
  rfl

/-- The next address of a run. -/
theorem add_wordOf_succ (a : Word) (k : Nat) : a + wordOf (k + 1) = a + 1 + wordOf k := by
  rw [wordOf, wordOf]
  bv_omega

/-- One run after another from where the first ended. -/
theorem State.storeBytes_append (s : State) (a : Word) (l l' : List Byte) :
    (s.storeBytes a l).storeBytes (a + wordOf l.length) l' = s.storeBytes a (l ++ l') := by
  induction l generalizing s a with
  | nil => simp [State.storeBytes, wordOf]
  | cons v rest ih =>
    rw [List.length_cons, add_wordOf_succ]
    exact ih _ _

/-- A run of stores changes memory only. -/
theorem State.storeBytes_eq (s : State) (a : Word) (l : List Byte) :
    s.storeBytes a l = { s with mem := (s.storeBytes a l).mem } := by
  induction l generalizing s a with
  | nil => rfl
  | cons v rest ih =>
    simp only [State.storeBytes]
    rw [ih, State.writeCell_eq s a v]

/-- A run of stores keeps the canonical form. -/
theorem State.storeBytes_wf {s : State} (a : Word) (l : List Byte) (h : s.mem.wf = true) :
    (s.storeBytes a l).mem.wf = true := by
  induction l generalizing s a with
  | nil => exact h
  | cons v rest ih => exact ih _ (State.writeCell_wf a v h)

/-- The memory after a run of stores depends on the memory before alone. -/
theorem State.storeBytes_mem_congr {s t : State} (h : s.mem = t.mem) (a : Word) (l : List Byte) :
    (s.storeBytes a l).mem = (t.storeBytes a l).mem := by
  induction l generalizing s t a with
  | nil => exact h
  | cons v rest ih =>
    refine ih ?_ _
    unfold State.writeCell
    split
    · exact h
    · simp [h]

/-- A cell that none of the bytes falls on reads as before. -/
theorem State.readCell_storeBytes_of_ne {s : State} {a x : Word} {l : List Byte} (h : s.mem.wf = true)
    (hx : ∀ k < l.length, x ≠ a + wordOf k) : (s.storeBytes a l).readCell x = s.readCell x := by
  induction l generalizing s a with
  | nil => rfl
  | cons v rest ih =>
    have hfirst : x ≠ a := by simpa [wordOf] using hx 0 (by simp)
    have hrest : ∀ k < rest.length, x ≠ a + 1 + wordOf k := fun k hk => by
      rw [← add_wordOf_succ]
      exact hx (k + 1) (by simpa using hk)
    rw [State.storeBytes, ih (State.writeCell_wf a v h) hrest, State.readCell_writeCell a x v h,
      if_neg fun e => hfirst e.1]

/-- The ROM keeps its bytes (R43). -/
theorem State.readCell_storeBytes_rom {s : State} {x : Word} (a : Word) (l : List Byte) (h : s.mem.wf = true)
    (hx : 0xFE00 ≤ x.toNat) : (s.storeBytes a l).readCell x = s.readCell x := by
  induction l generalizing s a with
  | nil => rfl
  | cons v rest ih =>
    have hcell : ¬ (x = a ∧ inRom a = false) := by
      rintro ⟨rfl, hrom⟩
      simp [inRom, hx] at hrom
    rw [State.storeBytes, ih _ (State.writeCell_wf a v h), State.readCell_writeCell a x v h, if_neg hcell]

/-- The bytes of a run stand from its address on, but for those in the ROM (R43, R60). -/
theorem State.readCell_storeBytes {s : State} {a : Word} {l : List Byte} {k : Nat} {v : Byte} (h : s.mem.wf = true)
    (hlen : l.length ≤ 0x10000) (hv : l[k]? = some v) (hram : (a + wordOf k).toNat < 0xFE00) :
    (s.storeBytes a l).readCell (a + wordOf k) = v := by
  induction l generalizing s a k with
  | nil => cases hv
  | cons b rest ih =>
    simp only [List.length_cons] at hlen
    have hwf := State.writeCell_wf a b h
    cases k with
    | zero =>
      obtain rfl : b = v := by simpa using hv
      have hzero : a + wordOf 0 = a := by simp [wordOf]
      rw [hzero] at hram ⊢
      have hne : ∀ k < rest.length, a ≠ a + 1 + wordOf k := fun k hk => by
        rw [wordOf]
        bv_omega
      rw [State.storeBytes, State.readCell_storeBytes_of_ne hwf hne, State.readCell_writeCell_self _ h hram]
    | succ k =>
      rw [add_wordOf_succ] at hram ⊢
      exact ih hwf (by omega) hv hram

/-- A read after a run, cell by cell from its first byte on. -/
theorem State.readCell_storeBytes_cons {s : State} {a x : Word} {v : Byte} {l : List Byte} (h : s.mem.wf = true)
    (hlen : l.length < 0x10000) :
    (s.storeBytes a (v :: l)).readCell x =
      if x.toNat < 0xFE00 ∧ x = a then v else (s.storeBytes (a + 1) l).readCell x := by
  have hwf := State.writeCell_wf a v h
  by_cases hrom : 0xFE00 ≤ x.toNat
  · rw [State.readCell_storeBytes_rom a _ h hrom, State.readCell_storeBytes_rom _ l h hrom, if_neg (by omega)]
  by_cases hx : x = a
  · subst hx
    rw [if_pos ⟨by omega, rfl⟩]
    have hzero : x + wordOf 0 = x := by simp [wordOf]
    have hread := State.readCell_storeBytes (a := x) (k := 0) h (l := v :: l) (by simpa using hlen) rfl
      (by rw [hzero]; omega)
    rwa [hzero] at hread
  rw [if_neg fun e => hx e.2, State.storeBytes]
  by_cases hlater : ∃ k < l.length, x = a + 1 + wordOf k
  · obtain ⟨k, hk, rfl⟩ := hlater
    have hbyte : l[k]? = some l[k] := List.getElem?_eq_getElem hk
    rw [State.readCell_storeBytes hwf (by omega) hbyte (by omega),
      State.readCell_storeBytes h (by omega) hbyte (by omega)]
  · have hne : ∀ k < l.length, x ≠ a + 1 + wordOf k := fun k hk e => hlater ⟨k, hk, e⟩
    rw [State.readCell_storeBytes_of_ne hwf hne, State.readCell_storeBytes_of_ne h hne,
      State.readCell_writeCell a x v h, if_neg fun e => hx e.1]

/-! ## Canonical lists -/

/-- The first cell of a canonical list reads as its byte, which is not the unlisted one. -/
theorem Memory.read_head_ne {lo k : Nat} {v : Byte} {rest : Memory} (h : Memory.wfFrom lo ((k, v) :: rest) = true) :
    Memory.read ((k, v) :: rest) k ≠ Config.unlistedByte := by
  simp only [Memory.wfFrom, Bool.and_eq_true, bne_iff_ne] at h
  simpa [Memory.read] using h.1.2

/-- Canonical lists that read alike are equal: neither can begin before the other, and their tails read alike. -/
theorem Memory.eq_of_read_eq {lo : Nat} {m m' : Memory} (h : m.wfFrom lo = true) (h' : m'.wfFrom lo = true)
    (hread : ∀ a, m.read a = m'.read a) : m = m' := by
  induction m generalizing lo m' with
  | nil =>
    cases m' with
    | nil => rfl
    | cons c rest => exact absurd (hread c.1).symm (Memory.read_head_ne h')
  | cons c rest ih =>
    obtain ⟨k, v⟩ := c
    cases m' with
    | nil => exact absurd (hread k) (Memory.read_head_ne h)
    | cons c' rest' =>
      obtain ⟨k', v'⟩ := c'
      have hk := Memory.read_head_ne h
      have hk' := Memory.read_head_ne h'
      have htail := h
      have htail' := h'
      simp only [Memory.wfFrom, Bool.and_eq_true, decide_eq_true_eq] at htail htail'
      obtain ⟨-, htail⟩ := htail
      obtain ⟨-, htail'⟩ := htail'
      -- the list that began later would read as unlisted at the other's first address
      have hkey : k = k' := by
        rcases Nat.lt_trichotomy k k' with hlt | heq | hlt
        · have hbelow : Memory.read ((k', v') :: rest') k = Config.unlistedByte := by
            have hne : k' ≠ k := by omega
            simpa [Memory.read, hne] using Memory.read_below htail' (by omega)
          exact absurd ((hread k).trans hbelow) hk
        · exact heq
        · have hbelow : Memory.read ((k, v) :: rest) k' = Config.unlistedByte := by
            have hne : k ≠ k' := by omega
            simpa [Memory.read, hne] using Memory.read_below htail (by omega)
          exact absurd ((hread k').symm.trans hbelow) hk'
      subst hkey
      have hval : v = v' := by simpa [Memory.read] using hread k
      subst hval
      congr 1
      refine ih htail htail' fun a => ?_
      by_cases ha : k = a
      · subst ha
        rw [Memory.read_below htail (Nat.lt_succ_self k), Memory.read_below htail' (Nat.lt_succ_self k)]
      · simpa [Memory.read, ha] using hread a

end Sys2Proof.Machine

namespace Sys2Proof.Claims

open Sys2Proof.Machine

/-- Settles O49: a store keeps the canonical form, and a read of the stored cell finds it, but in the ROM. -/
theorem latestWrite : Obligations.LatestWrite := by
  intro s a x v hwf
  refine ⟨State.writeCell_wf a v hwf, ?_⟩
  rw [State.readCell_writeCell a x v hwf]
  simp [inRom]

/-- Settles O50: canonical lists are determined by what they read. -/
theorem canonicalMemory : Obligations.CanonicalMemory := fun _ _ => Memory.eq_of_read_eq

end Sys2Proof.Claims
end

section
/-! PROOF of StoreWords, StoreBytes and RomWriteStops for the stores (R180; log 7), and of InterruptEntry (R310). Every store
is a checked run of bytes, and the save area is one run of seven. -/

namespace Sys2Proof.Machine

open Sys2Proof.Claims

/-! ## A checked run of bytes -/

/-- A store is refused only under `ROM_WRITE = fault`. -/
theorem romWrite_of_not_storeOk {s : State} {a : Word} {n : Nat} (h : ¬ s.storeOk a n) : s.cfg.romWrite = .fault := by
  cases hw : s.cfg.romWrite with
  | ignore => exact absurd (.inl hw) h
  | fault => rfl

/-- `romGuard` stops the model (log 7). -/
theorem romGuard_of_not_storeOk {s : State} {a : Word} {n : Nat} (rest : Out) (h : ¬ s.storeOk a n) :
    romGuard a n s rest = .fault .romWrite := by
  have hfault := romWrite_of_not_storeOk h
  obtain ⟨-, k, hk, hrom⟩ : s.cfg.romWrite ≠ .ignore ∧ ∃ k < n, 0xFE00 ≤ (a + BitVec.ofNat 16 k).toNat := by
    simpa [State.storeOk] using h
  have htouch : touchesRom a n = true := by
    simp only [touchesRom, List.any_eq_true, List.mem_range, inRom, decide_eq_true_eq]
    exact ⟨k, hk, hrom⟩
  exact if_pos (by simp [hfault, htouch])

/-- A store instruction: the bytes go to the effective address, behind its check and the ROM's (R58, R180). -/
def storeRun (m : MemMode) (l : List Byte) (s : State) : Out :=
  checkInt (s.ea m) s fun t => romGuard (s.ea m) l.length t (finish m.length (t.storeBytes (s.ea m) l))

theorem store16_eq_storeRun (m : MemMode) (v : Word) (s : State) : store16 m v s = storeRun m [highOf v, lowOf v] s := by
  unfold store16 storeRun
  simp only [State.writeWord_eq_storeBytes]
  rfl

theorem store8_eq_storeRun (m : MemMode) (v : Byte) (s : State) : store8 m v s = storeRun m [v] s := rfl

/-- The state after a store: memory, AR and the PC are written. -/
theorem storeRun_of_ok {s : State} {m : MemMode} {l : List Byte} (hok : s.internalOk (s.ea m))
    (hstore : s.storeOk (s.ea m) l.length) :
    storeRun m l s =
      .next { s with mem := (s.storeBytes (s.ea m) l).mem, ar := s.ea m, pc := pcPlus s m.length } := by
  unfold storeRun
  rw [checkInt_of_internalOk _ hok, romGuard_of_storeOk (s := s.withAr (s.ea m)) _ hstore, finish_pcPlus,
    State.storeBytes_eq, State.storeBytes_mem_congr (State.withAr_mem s (s.ea m))]
  rfl

theorem storeRun_of_not_internalOk {s : State} {m : MemMode} (l : List Byte) (hok : ¬ s.internalOk (s.ea m)) :
    storeRun m l s = .next (iaoor s (s.ea m)) :=
  checkInt_of_not_internalOk _ hok

theorem storeRun_of_not_storeOk {s : State} {m : MemMode} {l : List Byte} (hok : s.internalOk (s.ea m))
    (hstore : ¬ s.storeOk (s.ea m) l.length) : storeRun m l s = .fault .romWrite := by
  unfold storeRun
  rw [checkInt_of_internalOk _ hok]
  exact romGuard_of_not_storeOk (s := s.withAr (s.ea m)) _ hstore

theorem exec_of_storesWord {s : State} {i : Instr} {m : MemMode} {v : Word} (h : storesWord s i = some (m, v)) :
    exec i s = storeRun m [highOf v, lowOf v] s := by
  rw [← store16_eq_storeRun]
  cases i with
  | sta m | stb m | sti m | stpc w | simh m | siml m | semh m | seml m => cases h; rfl
  | _ => cases h

theorem exec_of_storesByte {s : State} {i : Instr} {m : MemMode} {v : Byte} (h : storesByte s i = some (m, v)) :
    exec i s = storeRun m [v] s := by
  rw [← store8_eq_storeRun]
  cases i with
  | stah m | stbh m =>
    cases h
    rw [← hiByte_eq]
    rfl
  | stj m => cases h; rfl
  | stsr w =>
    cases h
    rw [← Status.toByte_eq]
    rfl
  | _ => cases h

/-! ## The save area -/

/-- The save area is one run of bytes from 0x2010 on: PC, SR, A, B (R48, R310). -/
theorem saveContext_eq_storeBytes (s : State) (p : Word) :
    s.saveContext p =
      s.storeBytes 0x2010 [highOf p, lowOf p, statusByte s.sr, highOf s.a, lowOf s.a, highOf s.b, lowOf s.b] := by
  simp only [← hiByte_eq, ← loByte_eq, ← Status.toByte_eq]
  rfl

/-- Entry leaves every cell but the save area's. -/
theorem readCell_enter_of_outside {s : State} (k : Interrupt) (p : Word) (h : s.mem.wf = true) {x : Word}
    (hx : x.toNat < 0x2010 ∨ 0x2016 < x.toNat) : (s.enter k p).readCell x = s.readCell x := by
  rw [State.readCell_congr (enter_mem s k p), saveContext_eq_storeBytes]
  refine State.readCell_storeBytes_of_ne h fun j hj => ?_
  simp only [List.length_cons, List.length_nil] at hj
  rw [wordOf]
  bv_omega

theorem Interrupt.vector_eq (k : Interrupt) : k.vector = vectorOf k := by
  cases k <;> rfl

/-- The vectors lie below the save area. -/
theorem vectorOf_lt (k : Interrupt) : (vectorOf k).toNat + 1 < 0x2010 := by
  cases k <;> simp [vectorOf]

/-- Entry takes the PC from the vector (R301), which the saves leave alone. -/
theorem enter_pc {s : State} (k : Interrupt) (p : Word) (h : s.mem.wf = true) :
    (s.enter k p).pc = wordAt s (vectorOf k) := by
  have hlt := vectorOf_lt k
  have hnext : (vectorOf k + 1).toNat = (vectorOf k).toNat + 1 := by bv_omega
  have hpc : (s.enter k p).pc = (s.saveContext p).readWord k.vector := by rw [enter_eq]
  rw [hpc, k.vector_eq, State.readWord_congr (enter_mem s k p).symm, State.readWord_eq, wordAt, wordAt,
    readCell_enter_of_outside k p h (.inl (by omega)), readCell_enter_of_outside k p h (.inl (by omega))]

@[simp] theorem enter_sr (s : State) (k : Interrupt) (p : Word) : (s.enter k p).sr = Status.entry := by
  rw [enter_eq]

/-- The byte saved in each cell of the save area. -/
theorem readCell_enter_saved {s : State} (k : Interrupt) (p : Word) (h : s.mem.wf = true) {j : Nat} {v : Byte}
    (hv : [highOf p, lowOf p, statusByte s.sr, highOf s.a, lowOf s.a, highOf s.b, lowOf s.b][j]? = some v) :
    (s.enter k p).readCell (0x2010 + wordOf j) = v := by
  have hj : j < 7 := (List.getElem?_eq_some_iff.1 hv).1
  rw [State.readCell_congr (enter_mem s k p), saveContext_eq_storeBytes]
  refine State.readCell_storeBytes h (by simp) hv ?_
  rw [wordOf]
  bv_omega

end Sys2Proof.Machine

namespace Sys2Proof.Claims

open Sys2Proof.Machine

/-- Settles O10: a word store is the run of its two bytes. -/
theorem storeWords : Obligations.StoreWords := by
  refine fun s i m v hwf h => ⟨fun hok hstore => ?_, fun hok => ?_⟩ <;> rw [exec_of_storesWord h]
  · refine ⟨_, storeRun_of_ok hok hstore, rfl, State.storeBytes_wf _ _ hwf, fun x => ?_⟩
    exact (State.readCell_storeBytes_cons hwf (by simp)).trans
      (congrArg (ite _ _) (State.readCell_storeBytes_cons hwf (by simp)))
  · exact storeRun_of_not_internalOk _ hok

/-- Settles O11: a byte store is the run of its one byte. -/
theorem storeBytes : Obligations.StoreBytes := by
  refine fun s i m v hwf h => ⟨fun hok hstore => ?_, fun hok => ?_⟩ <;> rw [exec_of_storesByte h]
  · refine ⟨_, storeRun_of_ok hok hstore, rfl, State.storeBytes_wf _ _ hwf, fun x => ?_⟩
    exact State.readCell_storeBytes_cons hwf (by simp)
  · exact storeRun_of_not_internalOk _ hok

/-- Settles O31: the save area is one run of seven bytes above the vectors; the interrupt's data go to A and B. -/
theorem interruptEntry : Obligations.InterruptEntry := by
  rintro s _ k p hwf rfl
  refine ⟨enter_wf k p hwf, readCell_enter_saved k p hwf (j := 0) rfl, readCell_enter_saved k p hwf (j := 1) rfl,
    readCell_enter_saved k p hwf (j := 2) rfl, readCell_enter_saved k p hwf (j := 3) rfl,
    readCell_enter_saved k p hwf (j := 4) rfl, readCell_enter_saved k p hwf (j := 5) rfl,
    readCell_enter_saved k p hwf (j := 6) rfl, fun x hx => readCell_enter_of_outside k p hwf hx, ?_,
    enter_pc k p hwf, ?data, ?_⟩
  · rw [enter_sr]
    decide
  case data =>
    rw [enter_eq]
    cases k with
    | eirq addr data => exact ⟨rfl, by simp [State.interruptData, State.set16, State.set8, joinBytes_eq, toNat_loByte]⟩
    | nmi cause => exact ⟨rfl, by simp [State.interruptData, State.set8, joinBytes_eq, toNat_hiByte]⟩
    | drInr | iaoor | eaoor | spoor | sys => exact ⟨rfl, rfl⟩
  · rw [enter_eq]

end Sys2Proof.Claims
end

section
/-! PROOF of the stack statements (R60, R61, R200-R205, R309): PushResult, PushFrame, PopResult, ReturnResult, PushThenPop,
FrameThenReturn, StackTraps; and of RomWriteStops (log 7). Every `PSH` form is a checked run of bytes from SP on. -/

namespace Sys2Proof.Machine

open Sys2Proof.Claims

/-! ## Pushes as runs of bytes -/

/-- Bytes pushed, the first at SP (R60). -/
def State.pushRun (s : State) (l : List Byte) : State :=
  { s with mem := (s.storeBytes s.sp l).mem, sp := s.sp + wordOf l.length }

theorem pushByte_eq_pushRun (s : State) (v : Byte) : s.pushByte v = s.pushRun [v] := by
  rw [pushByte_eq, State.writeCell_eq]
  rfl

theorem pushWord_eq_pushRun (s : State) (v : Word) : s.pushWord v = s.pushRun [highOf v, lowOf v] := by
  rw [pushWord_eq, State.writeWord_eq_storeBytes, State.storeBytes_eq]
  rfl

/-- One push after another. -/
theorem pushRun_append (s : State) (l l' : List Byte) : (s.pushRun l).pushRun l' = s.pushRun (l ++ l') := by
  have hmem : ((s.pushRun l).storeBytes (s.sp + wordOf l.length) l').mem = (s.storeBytes s.sp (l ++ l')).mem := by
    rw [← State.storeBytes_append]
    exact State.storeBytes_mem_congr (s := s.pushRun l) (t := s.storeBytes s.sp l) rfl _ _
  have hsp : s.sp + wordOf l.length + wordOf l'.length = s.sp + wordOf (l ++ l').length := by
    rw [BitVec.add_assoc, wordOf, wordOf, ← BitVec.ofNat_add, List.length_append]
    rfl
  unfold State.pushRun at hmem ⊢
  simp only [hmem, hsp]

theorem pushedBytes_length (s : State) (f : PushForm) : (pushedBytes s f).length = pushedCount f := by
  cases f <;> rfl

/-- The state that a `PSH` form leaves when its checks pass. -/
def pushed (s : State) (f : PushForm) : State :=
  { s with
    mem := (s.storeBytes s.sp (pushedBytes s f)).mem
    sp := s.sp + wordOf (pushedCount f)
    ar := pushAr s f
    pc := pcPlus s (pushLength f) }

/-- A `PSH` form that pushes its bytes: the stack check, the ROM's guard, the bytes and the advance. -/
theorem exec_psh_of_pushing {s : State} {f : PushForm} {push : State → State}
    (hexec : exec (.psh f) s = pushing (pushedCount f) (pushLength f) (s.withAr (pushAr s f)) push)
    (hpush : push (s.withAr (pushAr s f)) = (s.withAr (pushAr s f)).pushRun (pushedBytes s f)) :
    exec (.psh f) s =
      checkSp (s.sp + wordOf (pushedCount f)) (s.withAr (pushAr s f))
        (romGuard s.sp (pushedCount f) (s.withAr (pushAr s f)) (.next (pushed s f))) := by
  rw [hexec, pushing, hpush, finish_pcPlus, State.pushRun, pushedBytes_length,
    State.storeBytes_mem_congr (State.withAr_mem s (pushAr s f))]
  rfl

/-- The memory forms read their operand first (R200). -/
theorem exec_psh_mem (m : PushMode) (s : State) :
    exec (.psh (.mem m)) s = checkInt (s.ea m.toMem) s fun t =>
      pushing 2 m.toMem.length t fun u => u.pushWord (t.readWord (s.ea m.toMem)) := rfl

/-- A `PSH` form whose operand, if it has one, may be read (R200). -/
theorem exec_psh {s : State} {f : PushForm} (h : pushOperandOk s f) :
    exec (.psh f) s =
      checkSp (s.sp + wordOf (pushedCount f)) (s.withAr (pushAr s f))
        (romGuard s.sp (pushedCount f) (s.withAr (pushAr s f)) (.next (pushed s f))) := by
  cases f with
  | accumulator => exact exec_psh_of_pushing (push := fun t => t.pushWord s.a) rfl (pushWord_eq_pushRun _ _)
  | base => exact exec_psh_of_pushing (push := fun t => t.pushWord s.b) rfl (pushWord_eq_pushRun _ _)
  | imm8 v => exact exec_psh_of_pushing (push := fun t => t.pushByte v) rfl (pushByte_eq_pushRun _ _)
  | ah =>
    refine exec_psh_of_pushing (push := fun t => t.pushByte (hiByte s.a)) rfl ?_
    rw [pushedBytes, ← hiByte_eq, pushByte_eq_pushRun]
  | al =>
    refine exec_psh_of_pushing (push := fun t => t.pushByte (loByte s.a)) rfl ?_
    rw [pushedBytes, ← loByte_eq, pushByte_eq_pushRun]
  | frame =>
    refine exec_psh_of_pushing (push := fun t => (t.pushByte s.sr.toByte).pushWord (s.pc + 5)) rfl ?_
    have hpc : s.pc + 5 = pcPlus s 5 := pc_add s 5
    rw [pushedBytes, ← Status.toByte_eq, ← hpc, pushByte_eq_pushRun, pushWord_eq_pushRun, pushRun_append]
    rfl
  | mem m =>
    refine exec_psh_of_pushing (push := fun t => t.pushWord (s.readWord (s.ea m.toMem)))
      ((exec_psh_mem m s).trans (checkInt_of_internalOk _ h)) ?_
    rw [pushedBytes, pushWord_eq_pushRun, ← hiByte_eq, ← loByte_eq, State.readWord, hiByte_joinBytes, loByte_joinBytes]

/-- A `PSH` form whose operand is out of bounds (R315). -/
theorem exec_psh_of_not_operandOk {s : State} {f : PushForm} (h : ¬ pushOperandOk s f) :
    exec (.psh f) s = .next (iaoor s (pushAr s f)) := by
  cases f with
  | mem m => exact (exec_psh_mem m s).trans (checkInt_of_not_internalOk _ h)
  | _ => exact absurd trivial h

/-- A `PSH` form whose checks pass (R200). -/
theorem exec_psh_of_ok {s : State} {f : PushForm} (h : pushOperandOk s f)
    (hstack : s.stackOk (s.sp + wordOf (pushedCount f))) (hstore : s.storeOk s.sp (pushedCount f)) :
    exec (.psh f) s = .next (pushed s f) := by
  rw [exec_psh h, checkSp_of_stackOk (s := s.withAr (pushAr s f)) _ hstack,
    romGuard_of_storeOk (s := s.withAr (pushAr s f)) _ hstore]

/-- A pushed byte stands in its cell, outside the ROM. -/
theorem readCell_pushed {s : State} {f : PushForm} {k : Nat} {v : Byte} (hwf : s.mem.wf = true)
    (hv : (pushedBytes s f)[k]? = some v) (hram : (s.sp + wordOf k).toNat < 0xFE00) :
    (pushed s f).readCell (s.sp + wordOf k) = v := by
  have hlen : (pushedBytes s f).length ≤ 0x10000 := by
    cases f <;> simp [pushedBytes]
  exact (State.readCell_congr rfl _).trans (State.readCell_storeBytes hwf hlen hv hram)

/-- A push leaves every cell but its own, and the ROM. -/
theorem readCell_pushed_of_ne {s : State} {f : PushForm} {x : Word} (hwf : s.mem.wf = true)
    (hx : (∀ k < pushedCount f, x ≠ s.sp + wordOf k) ∨ 0xFE00 ≤ x.toNat) :
    (pushed s f).readCell x = s.readCell x := by
  have hmem : (pushed s f).readCell x = (s.storeBytes s.sp (pushedBytes s f)).readCell x := State.readCell_congr rfl _
  rw [hmem]
  rcases hx with hne | hrom
  · exact State.readCell_storeBytes_of_ne hwf (by rwa [pushedBytes_length])
  · exact State.readCell_storeBytes_rom _ _ hwf hrom

/-! ## Pops -/

/-- The state that a word `POP` leaves when its check passes (R201). -/
theorem exec_pop_of_popsWord {s : State} {f : PopForm} {r : Reg16} (h : popsWord f = some r)
    (hstack : s.stackOk (s.sp - 2)) :
    exec (.pop f) s = .next { s.set16 r (wordAt s (s.sp - 2)) with
      sp := s.sp - 2
      sr := nzFlags 16 s.sr (wordAt s (s.sp - 2)).toNat
      pc := pcPlus s 2 } := by
  have hpop : exec (.pop f) s = popWord r s := by
    cases f <;> cases h <;> rfl
  have htop : s.topWord = wordAt s (s.sp - 2) := s.readWord_eq _
  rw [hpop, popWord, checkSp_of_stackOk _ hstack, htop, finish_set16_keepAr, Status.setNZ_eq]
  cases f <;> cases h <;> rfl

/-- The state that a byte `POP` leaves when its check passes (R201). -/
theorem exec_pop_of_popsByte {s : State} {f : PopForm} {r : Reg8} (h : popsByte f = some r)
    (hstack : s.stackOk (s.sp - 1)) :
    exec (.pop f) s = .next { s.set8 r (s.readCell (s.sp - 1)) with
      sp := s.sp - 1
      sr := nzFlags 8 s.sr (s.readCell (s.sp - 1)).toNat
      pc := pcPlus s 2 } := by
  have hpop : exec (.pop f) s = popByte r s := by
    cases f <;> cases h <;> rfl
  rw [hpop, popByte, checkSp_of_stackOk _ hstack, finish_set8_keepAr, Status.setNZ_eq]
  cases f <;> cases h <;> rfl

/-- The state that `RET` leaves when its check passes (R202). -/
theorem exec_ret_of_ok {s : State} (hstack : s.stackOk (s.sp - 3)) :
    exec .ret s = .next { s with
      pc := wordAt s (s.sp - 2)
      sr := statusFrom s.sr (s.readCell (s.sp - 3))
      sp := s.sp - 3 } := by
  have hexec : exec .ret s = checkSp (s.sp - 3) s (.next s.returnFrame) := rfl
  rw [hexec, checkSp_of_stackOk _ hstack, returnFrame_eq, Status.load_eq, State.readWord_eq]

/-! ## A push and what takes it off again -/

/-- A `PSH` into RAM that answered `t` left the pushed bytes there. -/
theorem eq_pushed_of_exec {s t : State} {f : PushForm} (hok : pushOperandOk s f)
    (hstack : s.stackOk (s.sp + wordOf (pushedCount f)))
    (hram : ∀ k < pushedCount f, (s.sp + wordOf k).toNat < 0xFE00) (hexec : exec (.psh f) s = .next t) :
    t = pushed s f := by
  rw [exec_psh_of_ok hok hstack (.inr hram)] at hexec
  cases hexec
  rfl

/-- The word whose bytes stand at an address and after it. -/
theorem wordAt_of_bytes {s : State} {a v : Word} (hhi : s.readCell a = highOf v) (hlo : s.readCell (a + 1) = lowOf v) :
    wordAt s a = v := by
  rw [← State.readWord_eq, State.readWord, hhi, hlo, ← hiByte_eq, ← loByte_eq, joinBytes_hi_lo]

/-- The first byte of a run stands at its address. -/
theorem add_wordOf_zero (a : Word) : a + wordOf 0 = a := by simp [wordOf]

/-- The stack check of the way back passes when that of the push did. -/
theorem pushed_stackOk {s : State} {f : PushForm} (h : s.stackOk (s.sp + wordOf (pushedCount f))) :
    (pushed s f).stackOk s.sp := by
  rcases h with hsys | ⟨hbefore, hafter⟩
  · exact .inl hsys
  · exact .inr ⟨hafter, hbefore⟩

end Sys2Proof.Machine

namespace Sys2Proof.Claims

open Sys2Proof.Machine

/-- Settles O12: behind checks that pass, `romGuard` stops the model. -/
theorem romWriteStops : Obligations.RomWriteStops := by
  refine ⟨fun s i m v h hok hstore => ?_, fun s i m v h hok hstore => ?_, fun s f hok hstack hstore => ?_⟩
  · rw [exec_of_storesWord h]
    exact storeRun_of_not_storeOk hok hstore
  · rw [exec_of_storesByte h]
    exact storeRun_of_not_storeOk hok hstore
  · rw [exec_psh hok, checkSp_of_stackOk (s := s.withAr (pushAr s f)) _ hstack]
    exact romGuard_of_not_storeOk (s := s.withAr (pushAr s f)) _ hstore

/-- Settles O14: a `PSH` form is the run of its bytes from SP on. -/
theorem pushResult : Obligations.PushResult := by
  intro s f _ hwf hok hstack hstore
  refine ⟨pushed s f, exec_psh_of_ok hok hstack hstore, rfl, State.storeBytes_wf _ _ hwf, fun k hk hram => ?_,
    fun x hx => readCell_pushed_of_ne hwf hx⟩
  have hbyte := List.getElem?_eq_getElem (l := pushedBytes s f) (i := k) (by rwa [pushedBytes_length])
  rw [readCell_pushed hwf hbyte hram, hbyte]

/-- Settles O15: the frame is the run of SR and the two bytes of the return address. -/
theorem pushFrame : Obligations.PushFrame := by
  intro s hwf hstack hstore
  refine ⟨pushed s .frame, exec_psh_of_ok trivial hstack hstore, rfl, State.storeBytes_wf _ _ hwf, fun x => ?_⟩
  by_cases hrom : 0xFE00 ≤ x.toNat
  · rw [if_pos hrom]
    exact readCell_pushed_of_ne hwf (.inr hrom)
  · have hmem : (pushed s .frame).readCell x = (s.storeBytes s.sp (pushedBytes s .frame)).readCell x :=
      State.readCell_congr rfl _
    have hthird : s.sp + 1 + 1 = s.sp + 2 := by bv_omega
    have hram : x.toNat < 0xFE00 := by omega
    rw [if_neg hrom, hmem, pushedBytes, State.readCell_storeBytes_cons hwf (by simp),
      State.readCell_storeBytes_cons hwf (by simp), State.readCell_storeBytes_cons hwf (by simp), hthird]
    simp only [hram, true_and]
    rfl

/-- Settles O16: `POP` reads below SP and moves it down. -/
theorem popResult : Obligations.PopResult :=
  ⟨fun _ _ _ h hstack => exec_pop_of_popsWord h hstack, fun _ _ _ h hstack => exec_pop_of_popsByte h hstack⟩

/-- Settles O17: `RET` reads its frame below SP. -/
theorem returnResult : Obligations.ReturnResult := fun _ hstack => exec_ret_of_ok hstack

/-- Settles O18: the `POP` reads the cells that the `PSH` has just written. -/
theorem pushThenPop : Obligations.PushThenPop := by
  refine ⟨fun s t f g r v hwf hg hbytes hram hstack hexec hok => ?word,
    fun s t f g r v hwf hg hbytes hram hstack hexec => ?byte⟩
  case word =>
    have hcount : pushedCount f = 2 := by rw [← pushedBytes_length s f, hbytes]; rfl
    obtain rfl := eq_pushed_of_exec hok (hcount ▸ hstack) (hcount ▸ hram) hexec
    have hsp : (pushed s f).sp - 2 = s.sp := by
      show s.sp + wordOf (pushedCount f) - 2 = s.sp
      rw [hcount, wordOf]
      bv_omega
    have hword : wordAt (pushed s f) s.sp = v := by
      refine wordAt_of_bytes ?_ ?_
      · have hfirst := readCell_pushed (k := 0) hwf (by rw [hbytes]; rfl) (hram 0 (by decide))
        rwa [add_wordOf_zero] at hfirst
      · exact readCell_pushed (k := 1) hwf (by rw [hbytes]; rfl) (hram 1 (by decide))
    refine ⟨_, exec_pop_of_popsWord hg (hsp.symm ▸ pushed_stackOk (hcount ▸ hstack)), ?_, hsp, ?_⟩
    · rw [hsp, hword]
      cases g <;> cases hg <;> rfl
    · cases g <;> cases hg <;> rfl
  case byte =>
    have hcount : pushedCount f = 1 := by rw [← pushedBytes_length s f, hbytes]; rfl
    have hok : pushOperandOk s f := by
      cases f with
      | mem m => cases hcount
      | _ => trivial
    have hcell : ∀ k < pushedCount f, (s.sp + wordOf k).toNat < 0xFE00 := by
      intro k hk
      obtain rfl : k = 0 := by omega
      rwa [add_wordOf_zero]
    obtain rfl := eq_pushed_of_exec hok (hcount ▸ hstack) hcell hexec
    have hsp : (pushed s f).sp - 1 = s.sp := by
      show s.sp + wordOf (pushedCount f) - 1 = s.sp
      rw [hcount, wordOf]
      bv_omega
    have hbyte : (pushed s f).readCell s.sp = v := by
      have hfirst := readCell_pushed (k := 0) hwf (by rw [hbytes]; rfl) (hcell 0 (by omega))
      rwa [add_wordOf_zero] at hfirst
    refine ⟨_, exec_pop_of_popsByte hg (hsp.symm ▸ pushed_stackOk (hcount ▸ hstack)), ?_, hsp, ?_⟩
    · rw [hsp, hbyte]
      cases g <;> cases hg <;> simp [State.get8, State.set8]
    · cases g <;> cases hg <;> rfl

/-- Settles O19: `RET` finds in the frame the SR and the return address that `PSH` (0064) put there. -/
theorem frameThenReturn : Obligations.FrameThenReturn := by
  intro s t u hwf hstack hram hexec hsp hframe hback
  obtain rfl := eq_pushed_of_exec (f := .frame) trivial hstack hram hexec
  have husp : u.sp = s.sp + 3 := hsp
  have hbottom : u.sp - 3 = s.sp := by rw [husp]; bv_omega
  have hreturn : u.sp - 2 = s.sp + 1 := by rw [husp]; bv_omega
  have hcell {k : Nat} {v : Byte} (hk : k < 3) (hv : (pushedBytes s .frame)[k]? = some v) :
      u.readCell (s.sp + wordOf k) = v := (hframe k hk).trans (readCell_pushed hwf hv (hram k hk))
  have hsr : u.readCell s.sp = s.sr.toByte := by
    have hfirst := hcell (k := 0) (by decide) rfl
    rwa [add_wordOf_zero, ← Status.toByte_eq] at hfirst
  have hpc : wordAt u (s.sp + 1) = pcPlus s 5 := by
    refine wordAt_of_bytes (hcell (k := 1) (by decide) rfl) ?_
    have hthird := hcell (k := 2) (by decide) rfl
    rwa [add_wordOf_succ] at hthird
  rw [exec_ret_of_ok (hbottom.symm ▸ hback), hbottom, hreturn, hpc, hsr, ← Status.load_eq, Status.load_toByte]

/-- Settles O20: a failed stack check takes SPOOR-INR, a failed operand check before it IAOOR-INR. -/
theorem stackTraps : Obligations.StackTraps := by
  refine ⟨fun s f hok hstack => ?_, fun s f hok => exec_psh_of_not_operandOk hok, fun s f r h hstack => ?_,
    fun s f r h hstack => ?_, fun s hstack => checkSp_of_not_stackOk _ hstack⟩
  · rw [exec_psh hok]
    exact checkSp_of_not_stackOk (s := s.withAr (pushAr s f)) _ hstack
  · cases f <;> cases h <;> exact checkSp_of_not_stackOk _ hstack
  · cases f <;> cases h <;> exact checkSp_of_not_stackOk _ hstack

end Sys2Proof.Claims
end

section
/-! PROOF of the boundary statements (R300-R314): StepRunsInstruction, Unrecognised, ExternalInterrupt, ExternalNmi,
MaskedRequest, ResetEffect, ResetValues, ResetInvariant, StaysStopped. One equation of the step for each thing that can
happen at a boundary; then the DR tick in closed form; then which interrupt is pending. -/

namespace Sys2Proof.Machine

open Sys2Proof.Claims

/-! ## The step, by what happens at the boundary (R300) -/

theorem step_of_reset {s : State} (h : s.boundaryInput.reset = true) : step s = .next s.passBoundary.restart := by
  simp [step, State.boundaryStep, h]

theorem step_of_stopped {s : State} (h : s.boundaryInput.reset = false) (hrun : s.run = .stopped) :
    step s = .next s.consumeInput := by
  simp [step, State.boundaryStep, h, hrun]

theorem step_of_pending {s : State} {k : Interrupt} (h : s.boundaryInput.reset = false) (hrun : s.run = .running)
    (hk : s.pending s.boundaryInput = some k) : step s = .next ((used s).enter k s.pc) := by
  simp only [step, State.boundaryStep, h, hrun, hk]
  rfl

theorem step_of_quiet {s : State} (h : s.quietBoundary) : step s = tickOut (used s).runInstruction := by
  obtain ⟨hreset, hrun, hnone⟩ := h
  simp only [step, State.boundaryStep, hreset, hrun, hnone]
  rfl

/-- A run goes on from the state that its first step answers. -/
theorem run_succ_of_next {M : Host.Core} {s t : M.State} (h : M.step s = .next t) (n : Nat) :
    M.run (n + 1) s = M.run n t := by
  simp only [Host.Core.run, h]

/-- IR takes the opcode at the PC (R78), which passing the boundary leaves. -/
theorem loadIr_used (s : State) : (used s).loadIr = { used s with ir := wordAt s s.pc } := by
  rw [State.loadIr, State.readWord_eq]
  rfl

/-- An instruction that decodes is executed with its opcode in IR. -/
theorem runInstruction_of_decode {s : State} {i : Instr} {rest : List Byte} (h : decode s.fetchBytes = .ok (i, rest)) :
    (used s).runInstruction = exec i { used s with ir := wordAt s s.pc } := by
  have hfetch : decode (used s).fetchBytes = .ok (i, rest) := h
  rw [State.runInstruction, hfetch, ← loadIr_used]

/-- The decoder refuses an opcode that the map does not have. -/
theorem decode_of_lookup_none {hi lo : Byte} (rest : List Byte) (h : lookupOpcode (joinBytes hi lo) = none) :
    decode (hi :: lo :: rest) = .error (.unrecognised (joinBytes hi lo)) := by
  simp only [decode, h]

/-- An opcode that R80 lists raises NMI with cause 1. -/
theorem runInstruction_of_unrecognised {s : State} (h : opcodeUnrecognised (wordAt s s.pc).toNat = true) :
    (used s).runInstruction = .next (raised { used s with ir := wordAt s s.pc } (.nmi 1)) := by
  have hlookup : lookupOpcode (joinBytes (s.readCell s.pc) (s.readCell (s.pc + 1))) = none := by
    rw [lookupOpcode_eq_none_iff, joinBytes_eq]
    exact h
  have hfetch := decode_of_lookup_none [s.readCell (s.pc + 2), s.readCell (s.pc + 3)] hlookup
  rw [← loadIr_used, State.runInstruction, show (used s).fetchBytes = s.fetchBytes from rfl, State.fetchBytes, hfetch]
  rfl

/-! ## The DR tick in closed form (R305) -/

/-- The first entry of the list under the opcode, else the other number. -/
theorem lookupTicks_eq (op : Word) (other : Nat) (l : List (Word × Nat)) :
    lookupTicks op other l = ((l.find? fun e => e.1 == op).map Prod.snd).getD other := by
  induction l with
  | nil => rfl
  | cons e rest ih =>
    rw [lookupTicks, List.find?_cons, ih]
    cases e.1 == op <;> rfl

/-- The number of decrements beyond the first: drawn, or by the table of the parameter. -/
theorem State.extraTicks_eq (s : State) : s.extraTicks = extraOf s := by
  unfold State.extraTicks extraOf
  rw [lookupTicks_eq]
  cases s.drDraws with
  | cons n rest => rfl
  | nil => cases s.cfg.extraTicks.find? fun e => e.1 == s.ir <;> rfl

/-- DR reaches 0 within `n + 1` decrements at the first of them or within `n` more. -/
theorem untilZero_le_succ (s : State) (n : Nat) :
    untilZero s ≤ n + 1 ↔ s.dr - 1 = 0 ∨ untilZero s.decrementDr ≤ n := by
  have hdr : (s.dr - 1 = 0) ↔ s.dr.toNat = 1 := by bv_omega
  have hnext : (s.dr - 1).toNat = if s.dr.toNat = 0 then 65535 else s.dr.toNat - 1 := by
    split <;> bv_omega
  rw [hdr, untilZero, untilZero, State.decrementDr_dr, hnext]
  split <;> split <;> omega

/-- A hit is remembered when there was one before, or DR passes 0 before the last decrement while D is 1. -/
theorem countDown_drHit (s : State) (n : Nat) :
    (s.countDown n).drHit = (s.drHit || (s.sr.d && decide (untilZero s ≤ n))) := by
  induction n generalizing s with
  | zero =>
    have hpos : ¬ untilZero s ≤ 0 := by
      unfold untilZero
      split <;> omega
    simp [State.countDown, hpos]
  | succ n ih =>
    have hsame : untilZero s.decrementDr.noteHit = untilZero s.decrementDr := rfl
    rw [State.countDown, ih, hsame, decide_eq_decide.2 (untilZero_le_succ s n), Bool.decide_or, State.noteHit_drHit,
      State.noteHit_sr, State.decrementDr_drHit, State.decrementDr_dr, State.decrementDr_sr, beq_eq_decide]
    cases s.sr.d <;> simp [Bool.or_assoc]

/-- The tick of a running processor. -/
theorem tick_of_running {s : State} (h : s.run = .running) : s.tick = ticked s := by
  rcases tick_eq s with ⟨-, htick⟩ | ⟨hstopped, -⟩
  · rw [htick, countDown_drHit, State.extraTicks_eq]
    rfl
  · rw [h] at hstopped
    cases hstopped

theorem tick_of_stopped {s : State} (h : s.run = .stopped) : s.tick = s := by
  rw [State.tick, h]

theorem tick_eq_ite (s : State) : s.tick = if s.run = .running then ticked s else s := by
  cases h : s.run with
  | running => rw [if_pos rfl, tick_of_running h]
  | stopped => rw [if_neg nofun, tick_of_stopped h]

/-- The decrements of an instruction do not depend on what an interrupt's entry writes. -/
theorem extraOf_enter (s : State) (k : Interrupt) (p : Word) : extraOf (s.enter k p) = extraOf s := by
  rw [enter_eq]
  rfl

/-! ## Which interrupt is pending (R314) -/

theorem nmiReady_of_noNmi {s : State} (h : noNmi s) : s.nmiReady s.boundaryInput = none := by
  unfold State.nmiReady
  rcases h with h | h <;> simp [h]

theorem drInrReady_of_due {s : State} (h : dueDrInr s) : s.drInrReady = some .drInr := by
  obtain ⟨hzero, hd⟩ := h
  exact if_pos (by simpa [hd] using hzero)

theorem drInrReady_of_not_due {s : State} (h : ¬ dueDrInr s) : s.drInrReady = none :=
  if_neg (by simpa [dueDrInr] using h)

theorem eirqReady_of_masked {s : State} (x : BoundaryInput) (h : s.sr.i = false ∨ x.eirq = none) :
    s.eirqReady x = none := by
  unfold State.eirqReady
  rcases h with h | h <;> simp [h]

theorem eirqReady_of_presented {s : State} {x : BoundaryInput} {addr : Word} {data : Byte}
    (hi : s.sr.i = true) (hx : x.eirq = some (addr, data)) : s.eirqReady x = some (.eirq addr data) := by
  simp [State.eirqReady, hi, hx]

/-- DR-INR is taken when it is due, no NMI is presented and no EIRQ has the priority. -/
theorem pending_drInr {s : State} (hnmi : noNmi s) (hdue : dueDrInr s)
    (hprio : s.cfg.irqPriority = .drInrFirst ∨ s.sr.i = false ∨ s.boundaryInput.eirq = none) :
    s.pending s.boundaryInput = some .drInr := by
  unfold State.pending
  rw [nmiReady_of_noNmi hnmi, drInrReady_of_due hdue]
  rcases hprio with hprio | hmasked
  · rw [hprio]
    rfl
  · rw [eirqReady_of_masked _ hmasked]
    cases s.cfg.irqPriority <;> rfl

/-- An EIRQ is taken when it is presented and enabled, no NMI is presented and no DR-INR has the priority. -/
theorem pending_eirq {s : State} {addr : Word} {data : Byte} (hnmi : noNmi s)
    (hx : s.boundaryInput.eirq = some (addr, data)) (hi : s.sr.i = true)
    (hprio : s.cfg.irqPriority = .eirqFirst ∨ ¬ dueDrInr s) :
    s.pending s.boundaryInput = some (.eirq addr data) := by
  unfold State.pending
  rw [nmiReady_of_noNmi hnmi, eirqReady_of_presented hi hx]
  rcases hprio with hprio | hdue
  · rw [hprio]
    rfl
  · rw [drInrReady_of_not_due hdue]
    cases s.cfg.irqPriority <;> rfl

/-- An external NMI is taken before both (log 8). -/
theorem pending_nmi {s : State} {cause : Byte} (hcfg : s.cfg.hasExternalNmi = true)
    (hx : s.boundaryInput.nmi = some cause) : s.pending s.boundaryInput = some (.nmi cause) := by
  have hready : s.nmiReady s.boundaryInput = some (.nmi cause) := by simp [State.nmiReady, hcfg, hx]
  unfold State.pending
  rw [hready]
  cases s.cfg.irqPriority <;> rfl

end Sys2Proof.Machine

namespace Sys2Proof.Claims

open Sys2Proof.Machine

/-- Settles O34: at a quiet boundary the step is the instruction and then the tick. -/
theorem stepRunsInstruction : Obligations.StepRunsInstruction := by
  intro s i rest hquiet hdecode
  rw [step_of_quiet hquiet, runInstruction_of_decode hdecode]
  cases exec i { used s with ir := wordAt s s.pc } with
  | next t => exact congrArg _ (tick_eq_ite t)
  | fault r => rfl
  | refused r => rfl

/-- Settles O35: the map has no entry for these values, and the entry of the NMI clears D, so that the tick remembers
nothing. -/
theorem unrecognised : Obligations.Unrecognised := by
  intro s hquiet hop
  have hlisted := (opcodeUnrecognised_iff _ (wordAt s s.pc).isLt).2 hop
  rw [step_of_quiet hquiet, runInstruction_of_unrecognised hlisted]
  have hrun : (raised { used s with ir := wordAt s s.pc } (.nmi 1)).run = .running := by
    rw [raised, enter_eq]
    exact hquiet.2.1
  refine congrArg _ ((tick_of_running hrun).trans ?_)
  rw [ticked, raised, extraOf_enter, enter_eq]
  rfl

/-- Settles O37: with that priority the pending interrupt is the EIRQ. -/
theorem externalInterrupt : Obligations.ExternalInterrupt := fun _ _ _ hreset hrun hnmi hx hi hprio =>
  step_of_pending hreset hrun (pending_eirq hnmi hx hi hprio)

/-- Settles O38: the pending interrupt is the NMI under either priority. -/
theorem externalNmi : Obligations.ExternalNmi := fun _ _ hreset hrun hcfg hx =>
  step_of_pending hreset hrun (pending_nmi hcfg hx)

/-- Settles O39: a masked EIRQ is not ready, and the input is used up either way. -/
theorem maskedRequest : Obligations.MaskedRequest := by
  intro s x rest hinputs hi
  have hx : s.boundaryInput = x := by rw [State.boundaryInput, hinputs]
  have hpass : s.passBoundary =
      State.passBoundary { s with inputs := { x with eirq := none } :: rest } := by
    simp [State.passBoundary, hinputs]
  have hconsume : s.consumeInput = State.consumeInput { s with inputs := { x with eirq := none } :: rest } := by
    simp [State.consumeInput, hinputs]
  have hpending : s.pending x =
      State.pending { s with inputs := { x with eirq := none } :: rest } { x with eirq := none } := by
    have hmasked := eirqReady_of_masked x (.inl hi)
    have hmasked' : State.eirqReady { s with inputs := { x with eirq := none } :: rest } { x with eirq := none } = none :=
      eirqReady_of_masked _ (.inr rfl)
    unfold State.pending
    rw [hmasked, hmasked']
    rfl
  unfold step State.boundaryStep
  rw [hx, hpass, hconsume, hpending]
  rfl

/-- Settles O32: RESET and `REST` are the same restart. -/
theorem resetEffect : Obligations.ResetEffect :=
  ⟨fun _ h => step_of_reset h, fun _ hs => requireS_of_system _ hs, fun _ h hrun => step_of_stopped h hrun⟩

/-- Settles O33: the values as they stand. -/
theorem resetValues : Obligations.ResetValues := ⟨rfl, by decide, rfl, rfl⟩

/-- Settles O51: the empty memory is canonical and no hit is remembered. -/
theorem resetInvariant : Obligations.ResetInvariant := ⟨reset_mem_wf, nofun⟩

/-- Settles O60: each step of the stopped processor uses up one input, by induction on the number of steps. -/
theorem staysStopped : Obligations.StaysStopped := by
  intro n
  induction n with
  | zero => exact fun s _ _ => rfl
  | succ n ih =>
    intro s hrun hinputs
    have hreset : s.boundaryInput.reset = false := by
      cases h : s.inputs with
      | nil => simp [State.boundaryInput, h, BoundaryInput.quiet]
      | cons x rest => simpa [State.boundaryInput, h] using hinputs x (by simp [h])
    have hstep : Sys2Proof.core.step s = .next s.consumeInput := step_of_stopped hreset hrun
    have htail : ∀ x ∈ s.consumeInput.inputs, x.reset = false := fun x hx => hinputs x (List.mem_of_mem_tail hx)
    refine (run_succ_of_next hstep n).trans ((ih s.consumeInput hrun htail).trans ?_)
    rw [State.consumeInput_inputs, List.drop_tail]
    rfl

end Sys2Proof.Claims
end

section
/-! PROOF layer: everything an instruction can do. `Effect` says what a completed instruction may change, `Ends` how an
instruction can end, and `exec_answers` that every instruction ends so or stops at the ROM. The statements about all steps
follow from it by its few cases. -/

namespace Sys2Proof.Machine

open Sys2Proof.Claims

/-! ## What an instruction can do -/

/-- The registers that only system mode writes (R32). -/
def privileged : Reg16 → Bool
  | .dr | .imli | .imhi | .emli | .emhi => true
  | .a | .b | .i | .sp => false

/-- What a completed instruction may change besides AR, the PC and SR: general registers; in system mode DR and the bounds;
a run of bytes in memory behind a check; one IO event behind a check. -/
inductive Effect (s : State) : State → Prop
  | registers (a b i : Word) (j : Byte) (sp ar pc : Word) (sr : Status) :
    Effect s { s with a := a, b := b, i := i, j := j, sp := sp, ar := ar, pc := pc, sr := sr }
  | system (hs : s.sr.s = true) (dr imli imhi emli emhi ar pc : Word) (sr : Status) :
    Effect s { s with
      dr := dr, imli := imli, imhi := imhi, emli := emli, emhi := emhi, ar := ar, pc := pc, sr := sr }
  | store (a : Word) (l : List Byte) (hlen : l.length ≤ 2) (hok : s.internalOk a) (ar pc : Word) :
    Effect s { s with mem := (s.storeBytes a l).mem, ar := ar, pc := pc }
  | push (l : List Byte) (hlen : l.length ≤ 3) (hok : s.stackOk (s.sp + wordOf l.length)) (sp ar pc : Word) :
    Effect s { s with mem := (s.storeBytes s.sp l).mem, sp := sp, ar := ar, pc := pc }
  | access (e : IoEvent) (hok : s.externalOk (eventAddress e)) (a b : Word) (answers : List Byte) (ar pc : Word)
      (sr : Status) :
    Effect s { s with
      a := a, b := b, ioAnswers := answers, ioTrace := s.ioTrace ++ [e], ar := ar, pc := pc, sr := sr }

/-- How an instruction can end: completed, with the flags of its row (R34), S not raised unless it was 1 (R22) and the PC
past its bytes (R79); in an interrupt; `REST` in a restart; `KILL` in a stop. -/
inductive Ends (i : Instr) (s : State) : State → Prop
  | complete {t : State} (heffect : Effect s t) (hflags : agreesOutside (writable i) s.sr t.sr)
      (hsystem : t.sr.s = true → s.sr.s = true) (hpc : writesPc i = false → t.pc = pcPlus s (encode i).length) :
    Ends i s t
  | interrupt (k : Interrupt) (ar : Word) : Ends i s (raised { s with ar := ar } k)
  | restart (hi : i = .rest) (hs : s.sr.s = true) : Ends i s s.restart
  | stop (hi : writesPc i = true) (hs : s.sr.s = true) : Ends i s { s with run := .stopped }

/-- What an instruction answers: a state in which it can end, or the stop of log 7. -/
inductive Answers (i : Instr) (s : State) : Out → Prop
  | ends {t : State} (h : Ends i s t) : Answers i s (.next t)
  | fault (h : s.cfg.romWrite = .fault) : Answers i s (.fault .romWrite)

/-! ## Flags of a row -/

theorem agreesOutside_refl (w f : Status) : agreesOutside w f f :=
  ⟨fun _ => rfl, fun _ => rfl, fun _ => rfl, fun _ => rfl, fun _ => rfl, fun _ => rfl, fun _ => rfl⟩

theorem agreesOutside_nzFlags {w : Status} (n : Nat) (f : Status) (v : Nat) (hn : w.n = true) (hz : w.z = true) :
    agreesOutside w f (nzFlags n f v) := by
  simp [agreesOutside, nzFlags, hn, hz]

theorem agreesOutside_addFlags {w : Status} (n : Nat) (f : Status) (x y : Nat) (hn : w.n = true) (ho : w.o = true)
    (hz : w.z = true) (hc : w.c = true) : agreesOutside w f (addFlags n f x y) := by
  simp [agreesOutside, addFlags, nzFlags, hn, ho, hz, hc]

theorem agreesOutside_subFlags {w : Status} (n : Nat) (p : SubCarryPolarity) (f : Status) (x y : Nat) (hn : w.n = true)
    (ho : w.o = true) (hz : w.z = true) (hc : w.c = true) : agreesOutside w f (subFlags n p f x y) := by
  simp [agreesOutside, subFlags, nzFlags, hn, ho, hz, hc]

theorem agreesOutside_cmpFlags {w : Status} (n : Nat) (f : Status) (x y : Nat) (hn : w.n = true) (hz : w.z = true)
    (hc : w.c = true) : agreesOutside w f (cmpFlags n f x y) := by
  simp [agreesOutside, cmpFlags, hn, hz, hc]

/-! ## Effects of register writes -/

/-- A word register written, a privileged one in system mode. -/
theorem set16_effect {s : State} {r : Reg16} (v x p : Word) (f : Status) (hr : privileged r = true → s.sr.s = true) :
    Effect s { s.set16 r v with sr := f, ar := x, pc := p } := by
  cases r with
  | a | b | i | sp => exact .registers _ _ _ _ _ _ _ _
  | dr | imli | imhi | emli | emhi => exact .system (hr rfl) _ _ _ _ _ _ _ _

/-- A half register or J written. -/
theorem set8_effect {s : State} (r : Reg8) (v : Byte) (x p : Word) (f : Status) :
    Effect s { s.set8 r v with sr := f, ar := x, pc := p } := by
  cases r <;> exact .registers _ _ _ _ _ _ _ _

/-- Flags written alone. -/
theorem flags_effect (s : State) (x p : Word) (f : Status) : Effect s { s with sr := f, ar := x, pc := p } :=
  .registers _ _ _ _ _ _ _ _

/-- An instruction with an operand: where the operand's check `p` fails, it ends in IAOOR-INR. -/
theorem answers_of_operand {i : Instr} {s t : State} {p : Prop} {a : Word} (hok : p → exec i s = .next t)
    (hbad : ¬ p → exec i s = .next (iaoor s a)) (hends : Ends i s t) : Answers i s (exec i s) := by
  by_cases h : p
  · rw [hok h]
    exact .ends hends
  · rw [hbad h]
    exact .ends (.interrupt .iaoor a)

/-- An instruction that answers one state. -/
theorem answers_of_next {i : Instr} {s t : State} (hexec : exec i s = .next t) (hends : Ends i s t) :
    Answers i s (exec i s) := by
  rw [hexec]
  exact .ends hends

/-- The end of an instruction that writes a word register, its flags, AR and the PC. -/
theorem ends_set16 {i : Instr} {s : State} {r : Reg16} {f : Status} {len : Nat} (v x : Word)
    (hr : privileged r = true → s.sr.s = true) (hflags : agreesOutside (writable i) s.sr f) (hf : f.s = s.sr.s)
    (hlen : (encode i).length = len) : Ends i s { s.set16 r v with sr := f, ar := x, pc := pcPlus s len } :=
  .complete (set16_effect v x _ f hr) hflags (fun h => hf ▸ h) fun _ => hlen ▸ rfl

/-- The end of an instruction that writes a half register or J, its flags, AR and the PC. -/
theorem ends_set8 {i : Instr} {s : State} {f : Status} {len : Nat} (r : Reg8) (v : Byte) (x : Word)
    (hflags : agreesOutside (writable i) s.sr f) (hf : f.s = s.sr.s) (hlen : (encode i).length = len) :
    Ends i s { s.set8 r v with sr := f, ar := x, pc := pcPlus s len } :=
  .complete (set8_effect r v x _ f) hflags (fun h => hf ▸ h) fun _ => hlen ▸ rfl

/-- The end of an instruction that writes its flags, AR and the PC; S is not raised. -/
theorem ends_flags {i : Instr} {s : State} {f : Status} {len : Nat} (x : Word)
    (hflags : agreesOutside (writable i) s.sr f) (hf : f.s = true → s.sr.s = true) (hlen : (encode i).length = len) :
    Ends i s { s with sr := f, ar := x, pc := pcPlus s len } :=
  .complete (flags_effect s x _ f) hflags hf fun _ => hlen ▸ rfl

/-! ## Arithmetic, logic and shifts -/

theorem answers_of_addWord {i : Instr} {r : Reg16} {y : Source} (s : State) (h : addWord i = some (r, y)) :
    Answers i s (exec i s) := by
  refine answers_of_operand (additionResult.1 s i r y h) (additionResult.2.1 s i r y h) ?_
  cases i with
  | ada form | adb form =>
    cases form with
    | imm8 v => cases h
    | mem m =>
      cases h
      exact ends_set16 _ _ nofun (agreesOutside_addFlags _ _ _ _ rfl rfl rfl rfl) rfl (by cases m <;> rfl)
    | _ => cases h; exact ends_set16 _ _ nofun (agreesOutside_addFlags _ _ _ _ rfl rfl rfl rfl) rfl rfl
  | _ => cases h

theorem answers_of_addByte {i : Instr} {r : Reg8} {v : Byte} (s : State) (h : addByte i = some (r, v)) :
    Answers i s (exec i s) := by
  refine answers_of_next (additionResult.2.2 s i r v h) ?_
  cases i with
  | ada form | adb form => cases form with
    | imm8 v => cases h; exact ends_set8 _ _ s.ar (agreesOutside_addFlags _ _ _ _ rfl rfl rfl rfl) rfl rfl
    | _ => cases h
  | _ => cases h

theorem answers_of_subWord {i : Instr} {r : Reg16} {y : Source} (s : State) (h : subWord i = some (r, y)) :
    Answers i s (exec i s) := by
  refine answers_of_operand (subtractionResult.1 s i r y h) (subtractionResult.2.1 s i r y h) ?_
  cases i with
  | sua form | sub form =>
    cases form with
    | imm8 v => cases h
    | mem m =>
      cases h
      exact ends_set16 _ _ nofun (agreesOutside_subFlags _ _ _ _ _ rfl rfl rfl rfl) rfl (by cases m <;> rfl)
    | _ => cases h; exact ends_set16 _ _ nofun (agreesOutside_subFlags _ _ _ _ _ rfl rfl rfl rfl) rfl rfl
  | _ => cases h

theorem answers_of_subByte {i : Instr} {r : Reg8} {v : Byte} (s : State) (h : subByte i = some (r, v)) :
    Answers i s (exec i s) := by
  refine answers_of_next (subtractionResult.2.2 s i r v h) ?_
  cases i with
  | sua form | sub form => cases form with
    | imm8 v => cases h; exact ends_set8 _ _ s.ar (agreesOutside_subFlags _ _ _ _ _ rfl rfl rfl rfl) rfl rfl
    | _ => cases h
  | _ => cases h

theorem answers_of_logicWord {i : Instr} {op : Bitwise} {r : Reg16} {y : Source} (s : State)
    (h : logicWord i = some (op, r, y)) : Answers i s (exec i s) := by
  refine answers_of_operand
    (fun hok => (exec_of_logicWord s h).trans ((takeWord_of_ok _ hok).trans (logic16_eq _ r _ _ _ s)))
    (Claims.logicResult.2.1 s i op r y h) ?_
  cases i with
  | ana form | anb form | ora form | orb form | xora form | xorb form =>
    cases form with
    | imm8 v => cases h
    | mem m => cases h; exact ends_set16 _ _ nofun (agreesOutside_nzFlags _ _ _ rfl rfl) rfl (by cases m <;> rfl)
    | _ => cases h; exact ends_set16 _ _ nofun (agreesOutside_nzFlags _ _ _ rfl rfl) rfl rfl
  | _ => cases h

theorem answers_of_logicByte {i : Instr} {op : Bitwise} {r : Reg8} {v : Byte} (s : State)
    (h : logicByte i = some (op, r, v)) : Answers i s (exec i s) := by
  refine answers_of_next ((exec_of_logicByte s h).trans (logic8_eq _ r v 3 s)) ?_
  cases i with
  | ana form | anb form | ora form | orb form | xora form | xorb form => cases form with
    | imm8 v => cases h; exact ends_set8 _ _ s.ar (agreesOutside_nzFlags _ _ _ rfl rfl) rfl rfl
    | _ => cases h
  | _ => cases h

theorem answers_of_countWord {i : Instr} {r : Reg16} {k : Nat} (s : State) (h : countWord i = some (r, k)) :
    Answers i s (exec i s) := by
  obtain ⟨hr, hn, hz, hlen⟩ :
      privileged r = false ∧ (writable i).n = true ∧ (writable i).z = true ∧ (encode i).length = 2 := by
    cases i with
    | ina | inb | ini | dea | deb | dei => cases h; exact ⟨rfl, rfl, rfl, rfl⟩
    | _ => cases h
  exact answers_of_next (incrementDecrement.1 s i r k h)
    (ends_set16 _ _ (fun hp => nomatch hr.symm.trans hp) (agreesOutside_nzFlags _ _ _ hn hz) rfl hlen)

theorem answers_of_countByte {i : Instr} {k : Nat} (s : State) (h : countByte i = some k) :
    Answers i s (exec i s) := by
  obtain ⟨hn, hz, hlen⟩ : (writable i).n = true ∧ (writable i).z = true ∧ (encode i).length = 2 := by
    cases i with
    | inj | dej => cases h; exact ⟨rfl, rfl, rfl⟩
    | _ => cases h
  exact answers_of_next (incrementDecrement.2 s i k h)
    (.complete (.registers s.a s.b s.i _ s.sp s.ar _ _) (agreesOutside_nzFlags _ _ _ hn hz) id fun _ => hlen ▸ rfl)

theorem answers_shl (f : ShiftForm) (s : State) : Answers (.shl f) s (exec (.shl f) s) := by
  refine answers_of_next (shiftResult s f).1 ?_
  cases f <;> exact ends_set16 _ s.ar nofun (by simp [agreesOutside, writable]) rfl rfl

theorem answers_shr (f : ShiftForm) (s : State) : Answers (.shr f) s (exec (.shr f) s) := by
  refine answers_of_next (shiftResult s f).2 ?_
  cases f <;> exact ends_set16 _ s.ar nofun (by simp [agreesOutside, writable]) rfl rfl

/-! ## Loads, transfers, compares and flags -/

theorem answers_of_loadsWord {i : Instr} {r : Reg16} {y : Source} {s : State} (h : loadsWord i = some (r, y))
    (hs : starred i = true → s.sr.s = true) : Answers i s (exec i s) := by
  have hbad (hok : ¬ y.ok s) : exec i s = .next (iaoor s (y.ar s)) := by
    rw [exec_of_loadsWord h hs, takeWord_of_not_ok _ hok]
  refine answers_of_operand (loadWords.1 s i r y h hs) hbad ?_
  cases i with
  | lda form | ldb form | ldi form | ldsp form =>
    cases h
    cases form with
    | imm w => exact ends_set16 _ _ nofun (agreesOutside_nzFlags _ _ _ rfl rfl) rfl rfl
    | mem m => exact ends_set16 _ _ nofun (agreesOutside_nzFlags _ _ _ rfl rfl) rfl (by cases m <;> rfl)
  | lddr form | lemh form | leml form | limh form | liml form =>
    cases h
    cases form with
    | imm w => exact ends_set16 _ _ hs (agreesOutside_nzFlags _ _ _ rfl rfl) rfl rfl
    | mem m => exact ends_set16 _ _ hs (agreesOutside_nzFlags _ _ _ rfl rfl) rfl (by cases m <;> rfl)
  | _ => cases h

theorem answers_of_loadsByte {i : Instr} {r : Reg8} {y : ByteSource} (s : State) (h : loadsByte i = some (r, y)) :
    Answers i s (exec i s) := by
  refine answers_of_operand (loadBytes.1 s i r y h) (loadBytes.2 s i r y h) ?_
  cases i with
  | ldah form | ldal form | ldbh form | ldbl form | ldj form =>
    cases h
    cases form with
    | imm v => exact ends_set8 _ _ _ (agreesOutside_nzFlags _ _ _ rfl rfl) rfl rfl
    | mem m => exact ends_set8 _ _ _ (agreesOutside_nzFlags _ _ _ rfl rfl) rfl (by cases m <;> rfl)
  | _ => cases h

/-- A loaded byte does not raise S (R22). -/
theorem statusFrom_s {f : Status} {v : Byte} (h : (statusFrom f v).s = true) : f.s = true :=
  (Bool.and_eq_true_iff.1 h).1

theorem answers_ldsr (f : Src8 AbsIndMode) (s : State) : Answers (.ldsr f) s (exec (.ldsr f) s) := by
  refine answers_of_operand (Claims.loadStatus s f).1 (Claims.loadStatus s f).2 ?_
  cases f with
  | imm v => exact ends_flags _ (by simp [agreesOutside, writable]) statusFrom_s rfl
  | mem m => exact ends_flags _ (by simp [agreesOutside, writable]) statusFrom_s (by cases m <;> rfl)

theorem answers_of_movesWord {i : Instr} {d r : Reg16} {s : State} (h : movesWord i = some (d, r))
    (hs : starred i = true → s.sr.s = true) : Answers i s (exec i s) := by
  refine answers_of_next (transferResult.1 s i d r h hs) ?_
  cases i with
  | tab | tai | tba | tbi | tisp | tspb =>
    cases h; exact ends_set16 _ s.ar nofun (agreesOutside_nzFlags _ _ _ rfl rfl) rfl rfl
  | tadr | taiml | taimh | taeml | taemh =>
    cases h; exact ends_set16 _ s.ar hs (agreesOutside_nzFlags _ _ _ rfl rfl) rfl rfl
  | _ => cases h

theorem answers_of_movesByte {i : Instr} {d r : Reg8} (s : State) (h : movesByte i = some (d, r)) :
    Answers i s (exec i s) := by
  refine answers_of_next (transferResult.2.1 s i d r h) ?_
  cases i with
  | tabh | tahj | tabl | tbah | tbhj | tbal =>
    cases h; exact ends_set8 _ _ s.ar (agreesOutside_nzFlags _ _ _ rfl rfl) rfl rfl
  | _ => cases h

theorem answers_of_comparesWord {i : Instr} {r : Reg16} {y : Source} (s : State) (h : comparesWord i = some (r, y)) :
    Answers i s (exec i s) := by
  refine answers_of_operand (compareFlags.1 s i r y h) (compareFlags.2.2.1 s i r y h) ?_
  cases i with
  | cmpa form | cmpb form | cmpi form =>
    cases h
    cases form with
    | mem m => exact ends_flags _ (agreesOutside_cmpFlags _ _ _ _ rfl rfl rfl) id (by cases m <;> rfl)
    | _ => exact ends_flags _ (agreesOutside_cmpFlags _ _ _ _ rfl rfl rfl) id rfl
  | _ => cases h

theorem answers_of_comparesByte {i : Instr} {r : Reg8} {y : ByteSource} (s : State)
    (h : comparesByte i = some (r, y)) : Answers i s (exec i s) := by
  refine answers_of_operand (compareFlags.2.1 s i r y h) (compareFlags.2.2.2 s i r y h) ?_
  cases i with
  | cmah form | cmbh form =>
    cases h
    cases form with
    | mem m => exact ends_flags _ (agreesOutside_cmpFlags _ _ _ _ rfl rfl rfl) id (by cases m <;> rfl)
    | _ => exact ends_flags _ (agreesOutside_cmpFlags _ _ _ _ rfl rfl rfl) id rfl
  | _ => cases h

/-- A flag instruction that `RequireS` does not stop. -/
theorem answers_of_putFlags {i : Instr} {s : State} {f : Status} (hexec : exec i s = putFlags f s)
    (hflags : agreesOutside (writable i) s.sr f) (hf : f.s = true → s.sr.s = true) (hlen : (encode i).length = 2) :
    Answers i s (exec i s) :=
  answers_of_next (hexec.trans (putFlags_eq f s)) (ends_flags s.ar hflags hf hlen)

/-! ## Jumps -/

/-- An instruction that writes the PC alone, and may. -/
theorem answers_of_jump {i : Instr} {s : State} {p : Word} (hexec : exec i s = .next { s with pc := p })
    (hi : writesPc i = true) : Answers i s (exec i s) :=
  answers_of_next hexec
    (.complete (flags_effect s s.ar p s.sr) (agreesOutside_refl _ _) id fun h => by simp [hi] at h)

theorem answers_of_jumpsWhen {i : Instr} {s : State} {c : Bool} {f : JumpForm} (h : jumpsWhen s.sr i = some (c, f)) :
    Answers i s (exec i s) := by
  refine answers_of_jump (conditionalJumps s i c f h) ?_
  cases i with
  | jcc g | jcs g | jeq g | jnc g | jne g | jns g | joc g | jos g => rfl
  | _ => cases h

/-! ## Stores and the stack -/

/-- A store of one or two bytes. -/
theorem answers_of_storeRun {i : Instr} {s : State} {m : MemMode} {l : List Byte} (hexec : exec i s = storeRun m l s)
    (hlen : l.length ≤ 2) (hlength : (encode i).length = m.length) : Answers i s (exec i s) := by
  rw [hexec]
  by_cases hok : s.internalOk (s.ea m)
  · by_cases hstore : s.storeOk (s.ea m) l.length
    · rw [storeRun_of_ok hok hstore]
      exact .ends (.complete (.store _ l hlen hok _ _) (agreesOutside_refl _ _) id fun _ => hlength ▸ rfl)
    · rw [storeRun_of_not_storeOk hok hstore]
      exact .fault (romWrite_of_not_storeOk hstore)
  · rw [storeRun_of_not_internalOk l hok]
    exact .ends (.interrupt .iaoor _)

theorem answers_of_storesWord {i : Instr} {s : State} {m : MemMode} {v : Word} (h : storesWord s i = some (m, v)) :
    Answers i s (exec i s) := by
  refine answers_of_storeRun (exec_of_storesWord h) le_rfl ?_
  cases i with
  | sta m | stb m | sti m | simh m | siml m | semh m | seml m => cases h; cases m <;> rfl
  | stpc w => cases h; rfl
  | _ => cases h

theorem answers_of_storesByte {i : Instr} {s : State} {m : MemMode} {v : Byte} (h : storesByte s i = some (m, v)) :
    Answers i s (exec i s) := by
  refine answers_of_storeRun (exec_of_storesByte h) (by simp) ?_
  cases i with
  | stah m | stbh m | stj m => cases h; cases m <;> rfl
  | stsr w => cases h; rfl
  | _ => cases h

theorem encode_psh_length (f : PushForm) : (encode (.psh f)).length = pushLength f := by
  cases f with
  | mem m => cases m <;> rfl
  | _ => rfl

theorem answers_psh (f : PushForm) (s : State) : Answers (.psh f) s (exec (.psh f) s) := by
  by_cases hok : pushOperandOk s f
  · by_cases hstack : s.stackOk (s.sp + wordOf (pushedCount f))
    · by_cases hstore : s.storeOk s.sp (pushedCount f)
      · rw [exec_psh_of_ok hok hstack hstore]
        rw [← pushedBytes_length s f] at hstack
        have hlen : (pushedBytes s f).length ≤ 3 := by cases f <;> simp [pushedBytes]
        exact .ends (.complete (.push _ hlen hstack _ _ _) (agreesOutside_refl _ _) id
          fun _ => (encode_psh_length f).symm ▸ rfl)
      · rw [romWriteStops.2.2 s f hok hstack hstore]
        exact .fault (romWrite_of_not_storeOk hstore)
    · rw [stackTraps.1 s f hok hstack]
      exact .ends (.interrupt .spoor _)
  · rw [stackTraps.2.1 s f hok]
    exact .ends (.interrupt .iaoor _)

theorem answers_of_popsWord {f : PopForm} {r : Reg16} (s : State) (h : popsWord f = some r) :
    Answers (.pop f) s (exec (.pop f) s) := by
  by_cases hstack : s.stackOk (s.sp - 2)
  · refine answers_of_next (popResult.1 s f r h hstack)
      (.complete ?_ (agreesOutside_nzFlags _ _ _ rfl rfl) id fun _ => by cases f <;> rfl)
    cases f <;> cases h <;> exact .registers _ _ _ _ _ s.ar _ _
  · exact answers_of_next (stackTraps.2.2.1 s f r h hstack) (.interrupt .spoor s.ar)

theorem answers_of_popsByte {f : PopForm} {r : Reg8} (s : State) (h : popsByte f = some r) :
    Answers (.pop f) s (exec (.pop f) s) := by
  by_cases hstack : s.stackOk (s.sp - 1)
  · refine answers_of_next (popResult.2 s f r h hstack)
      (.complete ?_ (agreesOutside_nzFlags _ _ _ rfl rfl) id fun _ => by cases f <;> rfl)
    cases f <;> cases h <;> exact .registers _ _ _ _ _ s.ar _ _
  · exact answers_of_next (stackTraps.2.2.2.1 s f r h hstack) (.interrupt .spoor s.ar)

theorem answers_ret (s : State) : Answers .ret s (exec .ret s) := by
  by_cases hstack : s.stackOk (s.sp - 3)
  · refine answers_of_next (returnResult s hstack) (.complete (.registers _ _ _ _ _ s.ar _ _) ?_ statusFrom_s nofun)
    simp [agreesOutside, writable]
  · exact answers_of_next (stackTraps.2.2.2.2 s hstack) (.interrupt .spoor s.ar)

/-! ## The external / IO space -/

theorem answers_read (f : ReadForm) (s : State) : Answers (.read f) s (exec (.read f) s) := by
  by_cases hok : s.externalOk (readFrom s f)
  · refine answers_of_next ((exec_read f s).trans (readExternal_of_ok _ _ hok))
      (.complete ?_ (agreesOutside_nzFlags _ _ _ rfl rfl) id fun _ => by cases f <;> rfl)
    cases f <;> exact .access (.read _ _) hok _ _ _ _ _ _
  · exact answers_of_next ((readResult s f).2 hok) (.interrupt .eaoor _)

theorem encode_length_of_writesOut {i : Instr} {s : State} {a : Word} {y : ByteSource}
    (h : writesOut s i = some (a, y)) : (encode i).length = writeSize i y := by
  cases i with
  | wrte f => cases f <;> rfl
  | wrti f =>
    cases h
    cases f with
    | mem m => cases m <;> rfl
    | _ => rfl
  | _ => cases h

theorem answers_of_writesOut {i : Instr} {s : State} {a : Word} {y : ByteSource}
    (h : writesOut s i = some (a, y)) : Answers i s (exec i s) := by
  obtain ⟨hok, hbadInternal, hbadExternal⟩ := writeResult s i a y h
  by_cases hy : y.ok s
  · by_cases ha : s.externalOk a
    · refine answers_of_next (hok hy ha)
        (.complete (.access (.write a _) ha s.a s.b s.ioAnswers a _ s.sr) (agreesOutside_refl _ _) id fun _ => ?_)
      rw [encode_length_of_writesOut h]
    · exact answers_of_next (hbadExternal hy ha) (.interrupt .eaoor _)
  · exact answers_of_next (hbadInternal hy) (.interrupt .iaoor _)

/-! ## Every instruction -/

/-- A starred instruction of user mode ends in its NMI; every other one by the lemma of its table. -/
theorem exec_answers (i : Instr) (s : State) : Answers i s (exec i s) := by
  by_cases huser : starred i = true ∧ s.sr.s = false
  · rw [starredTraps s i huser.1 huser.2]
    exact .ends (.interrupt (.nmi 2) s.ar)
  have hs (hi : starred i = true) : s.sr.s = true := by simpa [hi] using huser
  cases i with
  | ada form | adb form => cases form with
    | imm8 v => exact answers_of_addByte s rfl
    | _ => exact answers_of_addWord s rfl
  | sua form | sub form => cases form with
    | imm8 v => exact answers_of_subByte s rfl
    | _ => exact answers_of_subWord s rfl
  | ana form | anb form | ora form | orb form | xora form | xorb form => cases form with
    | imm8 v => exact answers_of_logicByte s rfl
    | _ => exact answers_of_logicWord s rfl
  | ina | inb | ini | dea | deb | dei => exact answers_of_countWord s rfl
  | inj | dej => exact answers_of_countByte s rfl
  | shl form => exact answers_shl form s
  | shr form => exact answers_shr form s
  | lda form | ldb form | lddr form | ldi form | ldsp form | lemh form | leml form | limh form | liml form =>
    exact answers_of_loadsWord rfl hs
  | ldah form | ldal form | ldbh form | ldbl form | ldj form => exact answers_of_loadsByte s rfl
  | ldsr form => exact answers_ldsr form s
  | tab | tai | tadr | taiml | taimh | taeml | taemh | tba | tbi | tisp | tspb => exact answers_of_movesWord rfl hs
  | tabh | tahj | tabl | tbah | tbhj | tbal => exact answers_of_movesByte s rfl
  | cmpa form | cmpb form | cmpi form => exact answers_of_comparesWord s rfl
  | cmah form | cmbh form => exact answers_of_comparesByte s rfl
  | aret => exact answers_of_putFlags (exec_aret s) (by simp [agreesOutside, writable]) id rfl
  | clc => exact answers_of_putFlags (f := { s.sr with c := false }) rfl (by simp [agreesOutside, writable]) id rfl
  | clo => exact answers_of_putFlags (f := { s.sr with o := false }) rfl (by simp [agreesOutside, writable]) id rfl
  | cld | sed | cli | sei | cls | ses =>
    exact answers_of_putFlags (requireS_of_system _ (hs rfl)) (by simp [agreesOutside, writable])
      (fun _ => hs rfl) rfl
  | jcc form | jcs form | jeq form | jnc form | jne form | jns form | joc form | jos form =>
    exact answers_of_jumpsWhen rfl
  | jmp form => exact answers_of_jump (jumpTargets s form) rfl
  | sta form | stb form | sti form | stpc arg | simh form | siml form | semh form | seml form =>
    exact answers_of_storesWord rfl
  | stah form | stbh form | stj form | stsr arg => exact answers_of_storesByte rfl
  | psh form => exact answers_psh form s
  | pop form => cases form with
    | accumulator | base => exact answers_of_popsWord s rfl
    | ah | al => exact answers_of_popsByte s rfl
  | ret => exact answers_ret s
  | read form => exact answers_read form s
  | wrte form | wrti form => exact answers_of_writesOut rfl
  | cpuid =>
    exact answers_of_next (otherInstructions s).1
      (.complete (.registers _ s.b s.i s.j s.sp s.ar _ s.sr) (agreesOutside_refl _ _) id fun _ => rfl)
  | msb form => cases form with
    | accumulator =>
      exact answers_of_next (otherInstructions s).2.1 (ends_flags s.ar (by simp [agreesOutside, writable]) id rfl)
    | base =>
      exact answers_of_next (otherInstructions s).2.2.1 (ends_flags s.ar (by simp [agreesOutside, writable]) id rfl)
  | nop form =>
    exact answers_of_next ((otherInstructions s).2.2.2 form) (ends_flags s.ar (agreesOutside_refl _ _) id rfl)
  | kill form => exact answers_of_next (killStops s form (hs rfl)) (.stop rfl (hs rfl))
  | sys => exact answers_of_next (systemCall s) (.interrupt .sys s.ar)
  | rest => exact answers_of_next (requireS_of_system _ (hs rfl)) (.restart rfl (hs rfl))

end Sys2Proof.Machine
end

section
/-! PROOF of the statements about every instruction and every step: StepKeepsInvariant, UserToSystem, UserStores, FlagTable,
PcAdvance, TimerInterrupt, IoConfined, UserLeavesBounds, StepTotal. First what each case of `Effect` and `Ends` keeps; then
the cases of a step, each statement being read off them. -/

namespace Sys2Proof.Machine

open Sys2Proof.Claims

/-! ## What every end of an instruction keeps -/

/-- No instruction writes the parameters, IR, the remembered hit or the draws (R34, R305). -/
theorem Effect.keeps {s t : State} (h : Effect s t) :
    t.cfg = s.cfg ∧ t.ir = s.ir ∧ t.drHit = s.drHit ∧ t.drDraws = s.drDraws := by
  cases h <;> exact ⟨rfl, rfl, rfl, rfl⟩

theorem Ends.keeps {i : Instr} {s t : State} (h : Ends i s t) :
    t.cfg = s.cfg ∧ t.ir = s.ir ∧ t.drHit = s.drHit ∧ t.drDraws = s.drDraws := by
  cases h with
  | complete heffect => exact heffect.keeps
  | interrupt k ar =>
    rw [raised, enter_eq]
    exact ⟨rfl, rfl, rfl, rfl⟩
  | restart => exact ⟨rfl, rfl, rfl, rfl⟩
  | stop => exact ⟨rfl, rfl, rfl, rfl⟩

/-- In user mode no instruction writes DR or a bound (R32, R320). -/
theorem Effect.keeps_of_user {s t : State} (h : Effect s t) (hs : s.sr.s = false) :
    t.dr = s.dr ∧ t.imli = s.imli ∧ t.imhi = s.imhi ∧ t.emli = s.emli ∧ t.emhi = s.emhi := by
  cases h with
  | system hsys => simp [hs] at hsys
  | _ => exact ⟨rfl, rfl, rfl, rfl, rfl⟩

theorem Ends.keeps_of_user {i : Instr} {s t : State} (h : Ends i s t) (hs : s.sr.s = false) :
    t.dr = s.dr ∧ t.imli = s.imli ∧ t.imhi = s.imhi ∧ t.emli = s.emli ∧ t.emhi = s.emhi := by
  cases h with
  | complete heffect => exact heffect.keeps_of_user hs
  | interrupt k ar =>
    rw [raised, enter_eq]
    exact ⟨rfl, rfl, rfl, rfl, rfl⟩
  | restart _ hsys => simp [hs] at hsys
  | stop _ hsys => simp [hs] at hsys

/-! ## Memory -/

theorem Effect.wf {s t : State} (h : Effect s t) (hwf : s.mem.wf = true) : t.mem.wf = true := by
  cases h with
  | store a l => exact State.storeBytes_wf a l hwf
  | push l => exact State.storeBytes_wf s.sp l hwf
  | _ => exact hwf

theorem Ends.wf {i : Instr} {s t : State} (h : Ends i s t) (hwf : s.mem.wf = true) : t.mem.wf = true := by
  cases h with
  | complete heffect => exact heffect.wf hwf
  | interrupt k ar => exact enter_wf (s := { s with ar := ar }) k _ hwf
  | _ => exact hwf

/-- A cell that a run of bytes changed is one of its cells. -/
theorem exists_of_readCell_storeBytes_ne {s : State} {a x : Word} {l : List Byte} (hwf : s.mem.wf = true)
    (h : (s.storeBytes a l).readCell x ≠ s.readCell x) : ∃ k < l.length, x = a + wordOf k := by
  by_contra hnone
  exact h (State.readCell_storeBytes_of_ne hwf fun k hk e => hnone ⟨k, hk, e⟩)

/-- With the bounds below the ROM, a checked store or push of user mode changes cells from IMLI to the one after IMHI: the
checks bound its first cell, and a push also the cell after its last (R68, R366). -/
theorem Effect.changed_cell {s t : State} (h : Effect s t) (hwf : s.mem.wf = true) (hs : s.sr.s = false)
    (hbound : s.imhi.toNat < 0xFE00) {x : Word} (hx : t.readCell x ≠ s.readCell x) :
    s.imli.toNat ≤ x.toNat ∧ x.toNat ≤ s.imhi.toNat + 1 := by
  cases h with
  | store a l hlen hok =>
    obtain ⟨k, hk, rfl⟩ := exists_of_readCell_storeBytes_ne hwf hx
    have hrange := hok.resolve_left (by simp [hs])
    rw [wordOf, BitVec.toNat_add, BitVec.toNat_ofNat]
    omega
  | push l hlen hok =>
    obtain ⟨k, hk, rfl⟩ := exists_of_readCell_storeBytes_ne hwf hx
    obtain ⟨hbefore, hafter⟩ := hok.resolve_left (by simp [hs])
    rw [wordOf, BitVec.toNat_add, BitVec.toNat_ofNat] at hafter ⊢
    omega
  | _ => exact absurd rfl hx

/-- A cell that an interrupt's entry changed is in the save area. -/
theorem changed_cell_of_enter {s : State} {k : Interrupt} {p x : Word} (hwf : s.mem.wf = true)
    (hx : (s.enter k p).readCell x ≠ s.readCell x) : 0x2010 ≤ x.toNat ∧ x.toNat ≤ 0x2016 := by
  by_contra hout
  exact hx (readCell_enter_of_outside k p hwf (by omega))

/-! ## The IO trace -/

/-- At most one event, its address checked (R57, R65). -/
theorem Effect.ioTrace {s t : State} (h : Effect s t) :
    t.ioTrace = s.ioTrace ∨ ∃ e, t.ioTrace = s.ioTrace ++ [e] ∧ s.externalOk (eventAddress e) := by
  cases h with
  | access e hok => exact .inr ⟨e, rfl, hok⟩
  | _ => exact .inl rfl

theorem enter_ioTrace (s : State) (k : Interrupt) (p : Word) : (s.enter k p).ioTrace = s.ioTrace := by
  rw [enter_eq]

theorem Ends.ioTrace {i : Instr} {s t : State} (h : Ends i s t) :
    t.ioTrace = s.ioTrace ∨ ∃ e, t.ioTrace = s.ioTrace ++ [e] ∧ s.externalOk (eventAddress e) := by
  cases h with
  | complete heffect => exact heffect.ioTrace
  | interrupt k ar => exact .inl (enter_ioTrace _ k _)
  | _ => exact .inl rfl

/-! ## The cases of a step -/

/-- What is fetched answers as an instruction does; an unrecognised opcode raises its NMI. -/
theorem runInstruction_answers (s : State) : ∃ i, Answers i s.loadIr s.runInstruction := by
  unfold State.runInstruction
  split
  · exact ⟨_, exec_answers _ _⟩
  · exact ⟨.nop .op0000, .ends (.interrupt (.nmi 1) s.loadIr.ar)⟩

/-- The state in which the instruction of a step is executed. -/
def executing (s : State) : State := { used s with ir := wordAt s s.pc }

/-- Every step to a next state is a RESET, a boundary of a stopped processor, an interrupt taken at the boundary, or an
instruction with its tick (R300). -/
theorem step_next {s t : State} (h : step s = .next t) :
    (s.boundaryInput.reset = true ∧ t = s.passBoundary.restart) ∨ t = s.consumeInput ∨
      (∃ k, t = (used s).enter k s.pc) ∨ ∃ i u, Ends i (executing s) u ∧ t = u.tick := by
  rcases boundaryStep_next h with hreset | ⟨_, _, hstop⟩ | ⟨_, _, k, _, hk⟩ | ⟨_, _, _, u, hu, htick⟩
  · exact .inl hreset
  · exact .inr (.inl hstop)
  · exact .inr (.inr (.inl ⟨k, hk⟩))
  · obtain ⟨i, hanswers⟩ := runInstruction_answers s.passBoundary
    have hexecuting : s.passBoundary.loadIr = executing s := loadIr_used s
    rw [hu, hexecuting] at hanswers
    cases hanswers with
    | ends hends => exact .inr (.inr (.inr ⟨i, u, hends, htick⟩))

/-- A step that has no next state is a store to the ROM under `ROM_WRITE = fault` (log 7). -/
theorem step_answers (s : State) :
    (∃ t, step s = .next t) ∨ (step s = .fault .romWrite ∧ s.cfg.romWrite = .fault) := by
  unfold step State.boundaryStep
  split
  · exact .inl ⟨_, rfl⟩
  split
  · exact .inl ⟨_, rfl⟩
  split
  · exact .inl ⟨_, rfl⟩
  obtain ⟨i, hanswers⟩ := runInstruction_answers s.passBoundary
  cases hrun : s.passBoundary.runInstruction with
  | next u => exact .inl ⟨_, rfl⟩
  | fault r =>
    rw [hrun] at hanswers
    cases hanswers with
    | fault hcfg => exact .inr ⟨rfl, hcfg⟩
  | refused r =>
    rw [hrun] at hanswers
    cases hanswers

/-- A tick remembers a hit only where there was one or D is 1, and only in a running processor. -/
theorem tick_drHit {s : State} (hhit : s.drHit = false) (h : s.tick.drHit = true) :
    s.sr.d = true ∧ s.run = .running := by
  rcases tick_eq s with ⟨hrun, htick⟩ | ⟨_, htick⟩
  · rw [htick] at h
    exact ⟨(countDown_hit h).resolve_left (by simp [hhit]), hrun⟩
  · rw [htick, hhit] at h
    cases h

/-- DR after a tick: as before, or lower by the decrements (R305). -/
theorem tick_dr (s : State) : s.tick.dr = s.dr ∨ s.tick.dr = s.dr - wordOf (extraOf s + 1) := by
  rw [tick_eq_ite]
  split
  · exact .inr rfl
  · exact .inl rfl

end Sys2Proof.Machine

namespace Sys2Proof.Claims

open Sys2Proof.Machine

/-- Settles O52: stores keep the canonical form, and only the tick of a running processor remembers a hit. -/
theorem stepKeepsInvariant : Obligations.StepKeepsInvariant := by
  intro s t ⟨hwf, hhit⟩ hstep
  rcases step_next hstep with ⟨_, rfl⟩ | rfl | ⟨k, rfl⟩ | ⟨i, u, hends, rfl⟩
  · exact ⟨hwf, nofun⟩
  · exact ⟨hwf, hhit⟩
  · refine ⟨enter_wf (s := used s) k s.pc hwf, fun h => ?_⟩
    rw [enter_eq] at h
    cases h
  · obtain ⟨-, -, hkept, -⟩ := hends.keeps
    rw [State.Inv, State.tick_mem, State.tick_sr, State.tick_run]
    exact ⟨hends.wf hwf, tick_drHit hkept⟩

/-- Settles O55: a completed instruction never raises S, and `REST` needs it; so the step was an entry or a RESET. -/
theorem userToSystem : Obligations.UserToSystem := by
  intro s t hwf hs hstep ht
  rcases step_next hstep with ⟨hreset, rfl⟩ | rfl | ⟨k, rfl⟩ | ⟨i, u, hends, rfl⟩
  · exact .inr ⟨hreset, rfl, resetValues.2.1⟩
  · simp [hs] at ht
  · obtain ⟨-, -, -, hsaved, -, -, -, -, -, hsr, hpc, -⟩ := interruptEntry (used s) _ k s.pc hwf rfl
    exact .inl ⟨k, hpc, hsr, hsaved⟩
  · rw [State.tick_sr] at ht ⊢
    rw [State.tick_pc, State.readCell_congr (State.tick_mem u)]
    cases hends with
    | complete _ _ hsystem => exact absurd (hsystem ht) (by simp [executing, used, hs])
    | interrupt k ar =>
      obtain ⟨-, -, -, hsaved, -, -, -, -, -, hsr, hpc, -⟩ :=
        interruptEntry { executing s with ar := ar } _ k (s.pc + s.cfg.syncSavedPcOffset) hwf rfl
      exact .inl ⟨k, hpc, hsr, hsaved⟩
    | restart _ hsys => exact absurd hsys (by simp [executing, used, hs])
    | stop _ hsys => exact absurd hsys (by simp [executing, used, hs])

/-- Settles O56: the checks of a store and of a push bound their cells, and an entry writes the save area. -/
theorem userStores : Obligations.UserStores := by
  intro s t hwf hs hbound hstep x hx
  rcases step_next hstep with ⟨_, rfl⟩ | rfl | ⟨k, rfl⟩ | ⟨i, u, hends, rfl⟩
  · exact absurd rfl hx
  · exact absurd rfl hx
  · obtain ⟨hlo, hhi⟩ := changed_cell_of_enter (s := used s) hwf hx
    exact .inr ⟨hlo, hhi, by rw [enter_sr]; rfl⟩
  · rw [State.readCell_congr (State.tick_mem u)] at hx
    rw [State.tick_sr]
    cases hends with
    | complete heffect => exact .inl (heffect.changed_cell (s := executing s) hwf hs hbound hx)
    | interrupt k ar =>
      obtain ⟨hlo, hhi⟩ := changed_cell_of_enter (s := { executing s with ar := ar }) hwf hx
      exact .inr ⟨hlo, hhi, by rw [raised, enter_sr]; rfl⟩
    | restart => exact absurd rfl hx
    | stop => exact absurd rfl hx

/-- Settles O53: a completed instruction keeps to its row, and `KILL` writes no flag. -/
theorem flagTable : Obligations.FlagTable := by
  intro i s t hexec
  have hanswers := exec_answers i s
  rw [hexec] at hanswers
  cases hanswers with
  | ends hends =>
    cases hends with
    | complete _ hflags hsystem => exact .inl ⟨hflags, hsystem⟩
    | interrupt k ar => exact .inr (.inl ⟨k, ar, rfl⟩)
    | restart hi hs => exact .inr (.inr ⟨hi, hs⟩)
    | stop => exact .inl ⟨agreesOutside_refl _ _, id⟩

/-- Settles O54: a completed instruction that writes no PC has advanced it by its length. -/
theorem pcAdvance : Obligations.PcAdvance := by
  intro i s t hi hexec
  have hanswers := exec_answers i s
  rw [hexec] at hanswers
  cases hanswers with
  | ends hends =>
    cases hends with
    | complete _ _ _ hpc => exact .inl (hpc hi)
    | interrupt k ar => exact .inr ⟨k, ar, rfl⟩
    | restart hrest => rw [hrest] at hi; cases hi
    | stop hwrites => rw [hwrites] at hi; cases hi

/-- Settles O36: the pending interrupt at the boundary; the closed form of the tick; and with one decrement an instruction
the tick remembers nothing. -/
theorem timerInterrupt : Obligations.TimerInterrupt := by
  refine ⟨fun s hreset hrun hnmi hdue hprio => step_of_pending hreset hrun (pending_drInr hnmi hdue hprio),
    fun s t i rest hquiet hdecode hexec hrun hd hzero => ⟨ticked t, ?_, ?due, hd⟩,
    fun s t hdraws hlist helse hhit hstep => ?single⟩
  · rw [stepRunsInstruction s i rest hquiet hdecode, hexec]
    simp only [hrun, if_true]
  case due =>
    by_cases hbefore : untilZero t ≤ extraOf t
    · exact .inr (by simp [ticked, hd, hbefore])
    · have hlast : untilZero t = extraOf t + 1 := by omega
      refine .inl ?_
      show t.dr - wordOf (extraOf t + 1) = 0
      rw [← hlast, untilZero, wordOf]
      split <;> bv_omega
  case single =>
    rcases step_next hstep with ⟨_, rfl⟩ | rfl | ⟨k, rfl⟩ | ⟨i, u, hends, rfl⟩
    · rfl
    · exact hhit
    · rw [enter_eq]
      rfl
    · obtain ⟨hcfg, -, hkept, hdrawsKept⟩ := hends.keeps
      have hdraws' : u.drDraws = [] := hdrawsKept.trans hdraws
      have hcfg' : u.cfg = s.cfg := hcfg
      have hextra : extraOf u = 0 := by simp [extraOf, hdraws', hcfg', hlist, helse]
      rcases tick_eq u with ⟨_, htick⟩ | ⟨_, htick⟩
      · rw [htick, State.extraTicks_eq, hextra]
        exact hkept
      · rw [htick]
        exact hkept

/-- Settles O57: only a completed instruction adds an event, behind its check. -/
theorem ioConfined : Obligations.IoConfined := by
  intro s t hstep
  rcases step_next hstep with ⟨_, rfl⟩ | rfl | ⟨k, rfl⟩ | ⟨i, u, hends, rfl⟩
  · exact .inl rfl
  · exact .inl rfl
  · exact .inl (enter_ioTrace (used s) k s.pc)
  · rw [State.tick_ioTrace]
    rcases hends.ioTrace with hsame | ⟨e, htrace, hok⟩
    · exact .inl hsame
    · exact .inr ⟨e, htrace, fun hs => hok.resolve_left (by simp [executing, used, hs])⟩

/-- Settles O58: no end of an instruction writes the parameters, none in user mode a bound or DR; the tick lowers DR. -/
theorem userLeavesBounds : Obligations.UserLeavesBounds := by
  intro s t hstep
  rcases step_next hstep with ⟨_, rfl⟩ | rfl | ⟨k, rfl⟩ | ⟨i, u, hends, rfl⟩
  · exact ⟨rfl, fun _ => ⟨rfl, rfl, rfl, rfl, .inl rfl⟩⟩
  · exact ⟨rfl, fun _ => ⟨rfl, rfl, rfl, rfl, .inl rfl⟩⟩
  · rw [enter_eq]
    exact ⟨rfl, fun _ => ⟨rfl, rfl, rfl, rfl, .inl rfl⟩⟩
  · obtain ⟨hcfg, hir, -, hdraws⟩ := hends.keeps
    rw [State.tick_cfg, State.tick_imli, State.tick_imhi, State.tick_emli, State.tick_emhi]
    refine ⟨hcfg, fun hs => ?_⟩
    obtain ⟨hdr, himli, himhi, hemli, hemhi⟩ := hends.keeps_of_user hs
    have hextra : extraOf u = extraOf { s with ir := wordAt s s.pc } := by
      unfold extraOf
      rw [hcfg, hir, hdraws]
      rfl
    refine ⟨himli, himhi, hemli, hemhi, ?_⟩
    rcases tick_dr u with h | h <;> rw [h, hdr]
    · exact .inl rfl
    · exact .inr (by rw [hextra]; rfl)

/-- Settles O59: the only stop is the ROM's, which the parameter excludes. -/
theorem stepTotal : Obligations.StepTotal := by
  refine ⟨fun s hcfg => ?_, fun s r h => ?_⟩ <;> rcases step_answers s with ⟨t, ht⟩ | ⟨hfault, hcfg'⟩
  · exact ⟨t, ht⟩
  · rw [hcfg] at hcfg'
    cases hcfg'
  · rw [ht] at h
    cases h
  · rw [hfault] at h
    cases h

end Sys2Proof.Claims
end
